-- ==== Sys2Proof/Word.lean ====
section
/-! DEFINITION. Words, addresses and the numbered names of the part: the bit vectors the manual treats as bits,
and the finite numberings of masters, tags, apertures, contexts, slots and regions. -/

namespace Sys2Proof

/-- A 32-bit word of the register window, and a 32-bit master address (R29, R168). -/
abbrev Word := BitVec 32

/-- One beat: 8 bytes of data (spec/00_scope.md, Terms). -/
abbrev Beat := BitVec 64

/-- The enabled byte lanes of one beat, any subset of eight (R29). -/
abbrev Lanes := BitVec 8

/-- A frame number, 24 bits (spec/00_scope.md, Terms). -/
abbrev Frame := BitVec 24

/-- A physical byte address, 36 bits (spec/00_scope.md, Terms). -/
abbrev PhysAddr := BitVec 36

/-- The index of a word of the 4 KiB window; its byte offset is four times the index (R168). -/
abbrev WordIndex := BitVec 10

/-- Masters M0 to M5. -/
abbrev Master := Fin 6

/-- Tags 0 to 3 of one master. -/
abbrev Tag := Fin 4

/-- Aperture descriptors A0 to A7. -/
abbrev ApertureId := Fin 8

/-- Walk contexts 0 and 1. -/
abbrev ContextId := Fin 2

/-- Park slots 0 to 15. -/
abbrev SlotId := Fin 16

/-- Memory regions 0 to 3. -/
abbrev RegionId := Fin 4

/-- The masters in order. -/
def allMasters : List Master := [0, 1, 2, 3, 4, 5]

/-- The apertures in order. -/
def allApertures : List ApertureId := [0, 1, 2, 3, 4, 5, 6, 7]

/-- The park slots in order. -/
def allSlots : List SlotId := [0, 1, 2, 3, 4, 5, 6, 7, 8, 9, 10, 11, 12, 13, 14, 15]

/-- The regions in order. -/
def allRegions : List RegionId := [0, 1, 2, 3]

end Sys2Proof
end

