-- ==== Sys2Proof/Syntax.lean ====
section
/-! DEFINITION. The commands of the part: one constructor of `Instr` for each row of spec/opcode_table.json, with the
operands that the event carries. -/

namespace Sys2Proof

/-- The kind of a request (R29), also the access kind of a fault record (R155). -/
inductive AccessKind where
  | read
  | write
  deriving DecidableEq, Repr

/-- One beat of a write: its data and its set of enabled byte lanes (R29). -/
structure WriteBeat where
  data : Beat
  lanes : Lanes
  deriving DecidableEq, Repr

/-- What a request asks for: a read of a number of beats, or a write with its beats (R29). -/
inductive RequestBody where
  | read (beats : Nat)
  | write (beats : List WriteBeat)
  deriving DecidableEq, Repr

/-- A request that a master presents (R29). -/
structure Request where
  tag : Tag
  address : Word
  body : RequestBody
  deriving DecidableEq, Repr

/-- The kind of a request (R29). -/
def Request.kind (r : Request) : AccessKind :=
  match r.body with
  | .read _ => .read
  | .write _ => .write

/-- The length of a request in beats (R29). -/
def Request.length (r : Request) : Nat :=
  match r.body with
  | .read n => n
  | .write beats => beats.length

/-- What the memory bus returns for the oldest access (R124): Okay, with the beats it drives, or Error. The bus is eight
beats wide here; a read of n beats uses the first n (log 16), and a write uses none. -/
inductive BusResult where
  | okay (beats : Vector Beat 8)
  | error
  deriving DecidableEq, Repr

/-- The access field of a map entry (R12). -/
inductive MapAccess where
  | noAccess
  | read
  | write
  | readWrite
  deriving DecidableEq, Repr

/-- A fault with which a walk completes, with the frame it records where its kind carries one (R73, R74, R75). -/
inductive WalkFault where
  | notValid
  | misalignedFrame (frame : Frame)
  | tableOutOfRange (frame : Frame)
  | tableReadError (frame : Frame)
  deriving DecidableEq, Repr

/-- The result of a walk at its completion (R75, R76). `discarded` is the walk that a test at the entry to its block phase
ended without a result (R74). -/
inductive WalkResult where
  | discarded
  | fault (kind : WalkFault)
  | success (frame : Frame) (access : MapAccess) (keep : Bool)
  deriving DecidableEq, Repr

/-- The three descriptor words the host configures (R25). -/
inductive DescriptorWord where
  | base
  | attributes
  | tableAddress
  deriving DecidableEq, Repr

/-- The two staging words of the invalidation queue (R139). -/
inductive StagingWord where
  | zero
  | one
  deriving DecidableEq, Repr

/-- The commands: every row of spec/opcode_table.json. LAWS.json maps each constructor to its row. -/
inductive Instr where
  /-- ARRIVAL (R30): master `m` presents a request. -/
  | arrival (m : Master) (r : Request)
  /-- ACCEPTANCE (R39): master `m` accepts the completion its port offers. -/
  | acceptance (m : Master)
  /-- GRANT (R128): the arbiter makes a grant. -/
  | grant
  /-- MEMORY_COMPLETION (R130): the bus returns the completion of the oldest access. -/
  | memoryCompletion (r : BusResult)
  /-- WALK_COMPLETION (R76): the walk in context `c`, whose reads are done, completes with a result. -/
  | walkCompletion (c : ContextId) (r : WalkResult)
  /-- TAKEOVER (R70): the Idle context `c` is taken by the oldest Queued slot. -/
  | takeover (c : ContextId)
  /-- TICK (R94): the park table takes a tick. -/
  | tick
  /-- EXPIRY (R96): the park timer of slot `k` expires. -/
  | expiry (k : SlotId)
  /-- OPEN (R14): an Open command to aperture `n`. -/
  | openAperture (n : ApertureId)
  /-- CLOSE (R19): a Close command to aperture `n`. -/
  | closeAperture (n : ApertureId)
  /-- HALT (R17): a Halt command to aperture `n`. -/
  | haltAperture (n : ApertureId)
  /-- RESUME (R18): a Resume command to aperture `n`. -/
  | resumeAperture (n : ApertureId)
  /-- BAD_COMMAND (R22): a full write of `value` to the command word of aperture `n`. -/
  | badCommand (n : ApertureId) (value : Word)
  /-- END_OF_DRAIN (R21): the Draining aperture `n` meets the drain condition. -/
  | endOfDrain (n : ApertureId)
  /-- DESCRIPTOR_WRITE (R25): a full write of `value` to a descriptor word of aperture `n`. -/
  | descriptorWrite (n : ApertureId) (w : DescriptorWord) (value : Word)
  /-- PORT_ENABLE_WRITE (R40): a port control write of master `m` with Port Reset 0. -/
  | portEnableWrite (m : Master) (enable : Bool)
  /-- PORT_RESET (R41): a port control write of master `m` with Port Reset 1; it carries an enable, stored first (R40). -/
  | portReset (m : Master) (enable : Bool)
  /-- END_OF_PORT_RESET (R44): no issued access of the Resetting master `m` remains. -/
  | endOfPortReset (m : Master)
  /-- GLOBAL_ENABLE (R172): a global control write with SoftReset 0. -/
  | globalEnable (enable : Bool)
  /-- SOFT_RESET (R173): a global control write with SoftReset 1. -/
  | softReset
  /-- CAUSE_CLEAR (R164): a full write to the cause word. -/
  | causeClear (value : Word)
  /-- CAUSE_ENABLE_WRITE (R165): a full write to the cause enable word. -/
  | causeEnableWrite (value : Word)
  /-- PARK_TIMEOUT_WRITE (R93): a full write to the park timeout word. -/
  | parkTimeoutWrite (value : Word)
  /-- REGION_WRITE (R57): a full write to the word of region `i`. -/
  | regionWrite (i : RegionId) (value : Word)
  /-- STAGING_WRITE (R139): a full write to a staging word. -/
  | stagingWrite (w : StagingWord) (value : Word)
  /-- PUSH (R140): a full write to the Push word, whatever its value. -/
  | push (value : Word)
  /-- INVALIDATE_PAGE (R144): the InvalidatePage command at the head of the queue executes. -/
  | invalidatePage
  /-- INVALIDATE_RANGE (R144): the InvalidateRange command at the head of the queue executes. -/
  | invalidateRange
  /-- INVALIDATE_DIRECTORY (R144): the InvalidateDirectory command at the head of the queue executes. -/
  | invalidateDirectory
  /-- INVALIDATE_APERTURE (R144): the InvalidateAperture command at the head of the queue executes. -/
  | invalidateAperture
  /-- FENCE (R145): the fence at the head of the queue starts. -/
  | fence
  /-- FENCE_COMPLETION (R148): the waiting fence completes, its counter being 0. -/
  | fenceCompletion
  /-- POP (R162): a full write to the Pop word, whatever its value. -/
  | pop (value : Word)
  /-- NARROW_WRITE (R169): a host write with fewer than four byte lanes, at any offset. -/
  | narrowWrite (word : WordIndex) (lanes : BitVec 4) (value : Word)
  /-- HOST_WRITE (R170): a full host write at any offset of the window. -/
  | hostWrite (word : WordIndex) (value : Word)
  /-- PIN_RESET (R26): RESET# goes low. -/
  | pinReset
  /-- RESET_RELEASE (R26): RESET# is released with PASS at the level `pass`; `order` is the order in which the ports' waiting
  arrivals are judged, which the manual leaves open (R47, log 10). -/
  | resetRelease (pass : Bool) (order : List Master)
  deriving DecidableEq, Repr

end Sys2Proof
end

