-- ==== Sys2Proof/Decode.lean ====
section
/-! DEFINITION. The command a word spells by the bits of spec/opcode_table.json. No row of the table gives bits (its 37
rows have no fixed and no field bits: 98_reader.md, n_rows_with_fixed 0), so no word spells a command. -/

namespace Sys2Proof

/-- The command that the word `w` of `nbits` bits spells: none, since no row of the table gives bits. -/
def decodeTableWord (_nbits _w : Nat) : Option Instr := none

end Sys2Proof
end

