-- ==== Sys2Proof/Config.lean ====
section
/-! DEFINITION. What the part fixes (its capacities, from the device summary of spec/00_scope.md) and the one value the
manual leaves open. -/

namespace Sys2Proof

/-- Page cache entries (R48). -/
abbrev Config.pageCacheEntries : Nat := 32

/-- The pin limit: at most this many page cache entries are pinned (R53). -/
abbrev Config.pinLimit : Nat := 8

/-- Directory cache entries (R54). -/
abbrev Config.dirCacheEntries : Nat := 8

/-- Write-order queue entries of one master (R108). -/
abbrev Config.writeQueueEntries : Nat := 4

/-- Memory accesses in flight at once (R125). -/
abbrev Config.maxInFlight : Nat := 8

/-- Commands the invalidation queue holds (R138). -/
abbrev Config.invQueueEntries : Nat := 8

/-- Records the fault log holds (R157). -/
abbrev Config.logEntries : Nat := 8

/-- The largest repeat count of a fault record (R159). -/
abbrev Config.maxRepeat : Nat := 255

/-- Frames of the physical address space: frame numbers run below this (R58). -/
abbrev Config.frames : Nat := 16777216

/-- FREE VALUE (log 6, DESIGN CHOICE, safe). The 24-bit frame a fault record shows when its access frame is
16,777,216 or above: R10 and R154 say the access frame is recorded, and R155 gives the field 24 bits, so the manual
states no value. The first argument counts the draws (State.freeCount), the second is the access frame. -/
opaque Config.freeFrame : Nat → Nat → Frame

end Sys2Proof
end

