-- ==== Sys2Proof/Machine/State.lean ====
section
/-! DEFINITION. The state of the part, the reasons a command can stop, and the state after reset. Every piece of state is
plain data. Lists kept in the manual's own order hold the caches (least recent first), the park table (arrival order) and
the queues (oldest first). -/

namespace Sys2Proof.Machine

/-! ## Apertures (chapter 1) -/

/-- Page sizes (R3). -/
inductive PageSize where
  | k4
  | k64
  deriving DecidableEq, Repr

/-- Aperture modes (R4, R5). -/
inductive Mode where
  | walked
  | linear
  deriving DecidableEq, Repr

/-- Linear access rights (R5). -/
inductive LinearAccess where
  | readWrite
  | readOnly
  deriving DecidableEq, Repr

/-- Aperture states (R1). -/
inductive ApertureState where
  | closed
  | opened
  | draining
  | halted
  deriving DecidableEq, Repr

/-- Last results of an aperture (R1). -/
inductive LastResult where
  | none
  | opened
  | closed
  | halted
  | resumed
  | badState
  | badSize
  | baseMisaligned
  | tableMisaligned
  | frameMisaligned
  | noMasters
  | overlap
  deriving DecidableEq, Repr

/-- An aperture descriptor (R1): nine configuration fields and three status fields. -/
structure Aperture where
  base : Word
  sizeCode : BitVec 4
  pageSize : PageSize
  mode : Mode
  tableAddress : Word
  linearAccess : LinearAccess
  masterMask : BitVec 6
  posting : Bool
  haltOnFault : Bool
  state : ApertureState
  lastResult : LastResult
  count : Nat
  deriving DecidableEq, Repr

/-- A descriptor after pin reset (R1). -/
def Aperture.reset : Aperture where
  base := 0
  sizeCode := 0
  pageSize := .k4
  mode := .walked
  tableAddress := 0
  linearAccess := .readWrite
  masterMask := 0
  posting := false
  haltOnFault := false
  state := .closed
  lastResult := .none
  count := 0

/-- A0 under a high strap (R26). -/
def Aperture.strapOpened : Aperture :=
  { Aperture.reset with sizeCode := 8, mode := .linear, masterMask := 63, state := .opened, lastResult := .opened }

/-! ## Fault kinds (chapter 9) -/

/-- The translation group of fault kinds (R23, R37). -/
inductive TransFault where
  | notValid
  | accessDenied
  | misalignedFrame
  | outOfRange
  | regionReadOnly
  | tableOutOfRange
  | tableReadError
  deriving DecidableEq, Repr

/-- The thirteen fault kinds (R154): the seven of the translation group and six more. -/
inductive FaultKind where
  | translation (k : TransFault)
  | memoryError
  | postedWriteLost
  | timeout
  | protocolError
  | noAperture
  | notPermitted
  deriving DecidableEq, Repr

/-- A fault record (R155). -/
structure FaultRecord where
  kind : FaultKind
  master : Master
  tag : Tag
  aperture : Option ApertureId
  access : AccessKind
  address : Word
  frame : Option Frame
  repeats : Nat
  deriving DecidableEq, Repr

/-! ## Master ports (chapter 2) -/

/-- Port states (R28). -/
inductive PortState where
  | active
  | disabled
  | resetting
  deriving DecidableEq, Repr

/-- The status of a completion with what it carries (R37): a read that succeeded carries its beats, a Fault its kind. -/
inductive CompletionStatus where
  | okayRead (beats : List Beat)
  | okayWrite
  | fault (kind : TransFault)
  | timeout
  | aborted
  | memoryError
  deriving DecidableEq, Repr

/-- A completion (R37). -/
structure Completion where
  tag : Tag
  status : CompletionStatus
  deriving DecidableEq, Repr

/-- The reasons of a refusal (R30). -/
inductive RefuseReason where
  | disabled
  | portResetting
  | tagInUse
  | misaligned
  | lineCross
  | noAperture
  | notPermitted
  | apertureClosing
  | apertureHalted
  deriving DecidableEq, Repr

/-- The answer to an arrival (R30). -/
inductive Answer where
  | taken
  | retry
  | refuse (reason : RefuseReason)
  deriving DecidableEq, Repr

/-- A master port unit (R28). `taken` is the place in the taken order that the next Taken request gets (R109). -/
structure Port where
  enable : Bool
  state : PortState
  tags : Vector (Option AccessKind) 4
  completions : List Completion
  pendingArrival : Option Request
  taken : Nat
  deriving DecidableEq, Repr

/-- A port after pin reset (R28). -/
def Port.reset : Port where
  enable := true
  state := .active
  tags := Vector.replicate 4 none
  completions := []
  pendingArrival := none
  taken := 0

/-! ## Issue queues (chapter 6) -/

/-- A read issue list entry (R107). -/
structure ReadEntry where
  tag : Tag
  arrival : Nat
  address : Word
  phys : PhysAddr
  length : Nat
  aperture : ApertureId
  counted : Bool
  deriving DecidableEq, Repr

/-- The state of a write-order entry; Translated and Issued entries have a physical address (R108). -/
inductive WriteState where
  | untranslated
  | translated (phys : PhysAddr)
  | issued (phys : PhysAddr)
  deriving DecidableEq, Repr

/-- A write-order queue entry (R108). Its length is the number of its beats. -/
structure WriteEntry where
  tag : Tag
  arrival : Nat
  address : Word
  beats : List WriteBeat
  aperture : ApertureId
  state : WriteState
  posted : Bool
  counted : Bool
  deriving DecidableEq, Repr

/-- The two queues of a master (R107, R108). -/
structure IssueQueues where
  reads : List ReadEntry
  writes : List WriteEntry
  deriving DecidableEq, Repr

/-! ## Translation cache and regions (chapter 3) -/

/-- A valid page cache entry (R48). -/
structure PageEntry where
  aperture : ApertureId
  page : Nat
  frame : Frame
  access : MapAccess
  pinned : Bool
  deriving DecidableEq, Repr

/-- A valid directory cache entry (R54). -/
structure DirEntry where
  aperture : ApertureId
  index : Nat
  blockFrame : Frame
  deriving DecidableEq, Repr

/-- Region attributes (R57). -/
inductive RegionAttr where
  | normal
  | readOnly
  | absent
  deriving DecidableEq, Repr

/-- A memory region (R57): its exclusive end frame and its attribute. -/
structure Region where
  endFrame : BitVec 25
  attr : RegionAttr
  deriving DecidableEq, Repr

/-- The region table after reset (R57). -/
def regionsReset : Vector Region 4 :=
  #v[⟨0x1000000, .normal⟩, ⟨0, .normal⟩, ⟨0, .normal⟩, ⟨0, .normal⟩]

/-! ## Table walker (chapter 4) -/

/-- The state of a context's one memory read (R72); a pending read carries its ready time. -/
inductive ReadState where
  | none
  | pending (ready : Nat)
  | issued
  deriving DecidableEq, Repr

/-- The phase of a busy context (R68); the block phase holds the block frame. -/
inductive Phase where
  | directoryRead
  | blockRead (blockFrame : Frame)
  deriving DecidableEq, Repr

/-- A walk in flight (R68). Its waiter list is the park slots that Wait on its context, in arrival order (log 17). -/
structure Walk where
  phase : Phase
  aperture : ApertureId
  page : Nat
  read : ReadState
  stale : Bool
  dirUsed : Bool
  deriving DecidableEq, Repr

/-! ## Park table (chapter 5) -/

/-- Whether a busy slot is Queued or Waiting on a context (R88). -/
inductive Placement where
  | queued
  | waiting (c : ContextId)
  deriving DecidableEq, Repr

/-- A busy park slot and the request parked in it (R88). `arrival` is the request's place in its master's taken order,
which its read issue entry takes at the walk completion (R109, R110). -/
structure ParkSlot where
  num : SlotId
  master : Master
  tag : Tag
  kind : AccessKind
  aperture : ApertureId
  page : Nat
  address : Word
  length : Nat
  arrival : Nat
  placement : Placement
  limit : BitVec 8
  ticks : Nat
  deriving DecidableEq, Repr

/-! ## Memory port (chapter 7) -/

/-- The fields of a Read or Write access record (R123). -/
structure ItemRecord where
  master : Master
  tag : Tag
  aperture : ApertureId
  address : Word
  phys : PhysAddr
  length : Nat
  counted : Bool
  deriving DecidableEq, Repr

/-- An access record of the in-flight list (R123); a record marked for discard holds no other field (R136). -/
inductive AccessRecord where
  | discarded
  | walk (c : ContextId) (aperture : ApertureId) (phys : PhysAddr)
  | read (r : ItemRecord)
  | write (r : ItemRecord)
  deriving DecidableEq, Repr

/-- An access as the memory bus sees it (R124). -/
inductive BusAccess where
  | read (phys : PhysAddr) (length : Nat)
  | write (phys : PhysAddr) (beats : List WriteBeat)
  deriving DecidableEq, Repr

/-! ## Invalidation queue (chapter 8) -/

/-- The staging words (R139); the kind field keeps any of its eight values. -/
structure Staging where
  kind : BitVec 3
  aperture : ApertureId
  index : BitVec 16
  interrupt : Bool
  firstPage : BitVec 16
  count : BitVec 16
  deriving DecidableEq, Repr

/-- The staging words after reset (R138). -/
def Staging.reset : Staging where
  kind := 0
  aperture := 0
  index := 0
  interrupt := false
  firstPage := 0
  count := 0

/-- The five kinds of invalidation command (R141). -/
inductive InvKind where
  | page
  | range
  | directory
  | aperture
  | fence
  deriving DecidableEq, Repr

/-- A command of the invalidation queue (R141). -/
structure InvCommand where
  kind : InvKind
  aperture : ApertureId
  index : BitVec 16
  interrupt : Bool
  firstPage : BitVec 16
  count : BitVec 16
  deriving DecidableEq, Repr

/-! ## Register window (chapter 10) -/

/-- Codes of the programming-error record (R177). -/
inductive ErrorCode where
  | none
  | accessWidth
  | descriptorBusy
  | badCommand
  deriving DecidableEq, Repr

/-- The programming-error record (R177). -/
structure ProgError where
  code : ErrorCode
  offset : BitVec 12
  deriving DecidableEq, Repr

/-! ## Outputs -/

/-- What goes out on a channel of the part: the answer to an arrival (R30), a delivered completion (R39), the port reset
indication (R45), an access issued to the memory bus (R124). -/
inductive Output where
  | answer (m : Master) (tag : Tag) (a : Answer)
  | delivered (m : Master) (c : Completion)
  | indication (m : Master)
  | issued (a : BusAccess)
  deriving DecidableEq, Repr

/-! ## The whole state -/

/-- The state of the part. -/
structure State where
  /-- RESET# is low (spec/00_scope.md, Pins). -/
  resetLow : Bool
  /-- The latched PASS strap (R26). -/
  passLatched : Bool
  /-- The aperture descriptors A0 to A7 (R1). -/
  apertures : Vector Aperture 8
  /-- The master port units M0 to M5 (R28). -/
  ports : Vector Port 6
  /-- The issue queues of the masters (R107, R108). -/
  queues : Vector IssueQueues 6
  /-- The valid page cache entries, least recent first (R48, R49). -/
  pageCache : List PageEntry
  /-- The valid directory cache entries, least recent first (R54). -/
  dirCache : List DirEntry
  /-- The region table (R57). -/
  regions : Vector Region 4
  /-- The walk contexts; `none` is Idle (R68). -/
  contexts : Vector (Option Walk) 2
  /-- The ready time the next read that becomes pending gets (R72). -/
  readySeq : Nat
  /-- The busy park slots, in arrival order (R88, R89). -/
  park : List ParkSlot
  /-- The in-flight list, oldest first (R123). -/
  inFlight : List AccessRecord
  /-- The round-robin pointer: the master granted last (R127). -/
  rrPointer : Master
  /-- The staging words (R138, R139). -/
  staging : Staging
  /-- The command queue, oldest at the head (R138, R141). -/
  invQueue : List InvCommand
  /-- The head of the command queue is a fence that has started and waits (R138, R145). -/
  fenceWaiting : Bool
  /-- The fence counter (R138). -/
  fenceCounter : Nat
  /-- The FenceDone token (R138, R150). -/
  fenceToken : BitVec 16
  /-- The fault log, oldest first (R157). -/
  log : List FaultRecord
  /-- The overflow flag (R157, R160). -/
  overflow : Bool
  /-- The causes, one bit each (R163, R178). -/
  causes : BitVec 10
  /-- The cause enables (R165, R178). -/
  enables : BitVec 10
  /-- The global Enable (R172). -/
  globalEnable : Bool
  /-- The park timeout (R93, R176). -/
  parkTimeout : BitVec 8
  /-- The programming-error record (R177). -/
  progError : ProgError
  /-- The model's own: what has gone out on the channels, newest first (log 11). -/
  trace : List Output
  /-- The model's own: how many free values have been drawn (log 6). -/
  freeCount : Nat
  /-- The commands that wait, the front first. -/
  pending : List Instr
  deriving DecidableEq, Repr

/-- Why the machine stops with a fault. Each is an event that the protocol of an outside agent rules out and for which the
spec gives no effect; stopping is safe. -/
inductive Fault where
  /-- Raised by MEMORY_COMPLETION when no access is in flight: the bus returns one completion for each issued access (R124,
  R130). Safe (log 7). -/
  | completionWithoutAccess
  /-- Raised by ARRIVAL while RESET# is low and a request already waits on the channel: the channel carries one arrival at a
  time (R30, R47). Safe (log 8). -/
  | requestChannelBusy
  deriving DecidableEq, Repr

/-- Why a command has no meaning. -/
inductive Refusal where
  /-- Raised by Dispatch.lean's arms of commands not modelled yet; none at present. Safe. -/
  | notModelled (mnemonic : String)
  /-- Raised by ARRIVAL for a request that is not 1 to 8 beats long: no such request exists (R29). Safe (log 15). -/
  | requestLength
  /-- Raised by NARROW_WRITE for an access with no byte lane: no such access exists (R168). Safe (log 15). -/
  | noByteLanes
  deriving DecidableEq, Repr

/-- The machine right after pin reset, RESET# released with the strap low (R183, log 1). -/
def State.reset : State where
  resetLow := false
  passLatched := false
  apertures := Vector.replicate 8 Aperture.reset
  ports := Vector.replicate 6 Port.reset
  queues := Vector.replicate 6 ⟨[], []⟩
  pageCache := []
  dirCache := []
  regions := regionsReset
  contexts := Vector.replicate 2 none
  readySeq := 0
  park := []
  inFlight := []
  rrPointer := 5
  staging := Staging.reset
  invQueue := []
  fenceWaiting := false
  fenceCounter := 0
  fenceToken := 0
  log := []
  overflow := false
  causes := 0
  enables := 0
  globalEnable := false
  parkTimeout := 0
  progError := ⟨.none, 0⟩
  trace := []
  freeCount := 0
  pending := []

end Sys2Proof.Machine
end

