-- ==== Sys2Proof/Machine/Flags.lean ====
section
/-! DEFINITION. The causes, their enables, and INT# (section 9.4). -/

namespace Sys2Proof.Machine

/-- The ten causes (section 9.4). -/
inductive Cause where
  | faultLogged
  | logOverflow
  | fenceDone
  | apertureClosed
  | apertureHalted
  | invalidationError
  | invalidationOverflow
  | programmingError
  | pinLimit
  | portResetDone
  deriving DecidableEq, Repr

/-- The bit of a cause in the cause word and the cause enable word (section 10.6). -/
def Cause.mask : Cause → BitVec 10
  | .faultLogged => 0x001
  | .logOverflow => 0x002
  | .fenceDone => 0x004
  | .apertureClosed => 0x008
  | .apertureHalted => 0x010
  | .invalidationError => 0x020
  | .invalidationOverflow => 0x040
  | .programmingError => 0x080
  | .pinLimit => 0x100
  | .portResetDone => 0x200

/-- Setting a cause; one already set stays set (R163). -/
def setCause (c : Cause) (s : State) : State := { s with causes := s.causes ||| c.mask }

/-- Whether a cause is set. -/
def State.causeSet (s : State) (c : Cause) : Bool := s.causes &&& c.mask != 0

/-- Clearing the causes whose bit carries 1; clearing LogOverflow also clears the overflow flag (R164). -/
def clearCauses (v : BitVec 10) (s : State) : State :=
  { s with
    causes := s.causes &&& ~~~v
    overflow := if v &&& Cause.logOverflow.mask != 0 then false else s.overflow }

/-- INT# is asserted, low, while a cause is both set and enabled; it is not while RESET# is low (R165, R178). -/
def State.intAsserted (s : State) : Bool := !s.resetLow && (s.causes &&& s.enables != 0)

end Sys2Proof.Machine
end

