-- ==== Sys2Proof/Machine/Ops.lean ====
section
/-! DEFINITION. The operations that the commands share: accessors, address decode and translation, the access and region
checks, fault reports, completions, retirement and the drain test. -/

namespace Sys2Proof.Machine

/-- What a command answers. -/
abbrev Result := Host.Outcome State Fault Refusal

/-! ## Accessors -/

/-- Aperture descriptor `n`. -/
def State.aperture (s : State) (n : ApertureId) : Aperture := s.apertures[n]

/-- Replacing descriptor `n`. -/
def State.setAperture (s : State) (n : ApertureId) (a : Aperture) : State :=
  { s with apertures := s.apertures.set n a }

/-- Port unit `m`. -/
def State.port (s : State) (m : Master) : Port := s.ports[m]

/-- Replacing port unit `m`. -/
def State.setPort (s : State) (m : Master) (p : Port) : State := { s with ports := s.ports.set m p }

/-- The issue queues of master `m`. -/
def State.queue (s : State) (m : Master) : IssueQueues := s.queues[m]

/-- Replacing the issue queues of master `m`. -/
def State.setQueue (s : State) (m : Master) (q : IssueQueues) : State := { s with queues := s.queues.set m q }

/-- Walk context `c`; `none` is Idle. -/
def State.context (s : State) (c : ContextId) : Option Walk := s.contexts[c]

/-- Replacing walk context `c`. -/
def State.setContext (s : State) (c : ContextId) (w : Option Walk) : State :=
  { s with contexts := s.contexts.set c w }

/-- Tag `t` of a port: Free or InUse with the kind of the request Taken on it (R28). -/
def Port.tag (p : Port) (t : Tag) : Option AccessKind := p.tags[t]

/-- Replacing a tag entry. -/
def Port.setTag (p : Port) (t : Tag) (k : Option AccessKind) : Port := { p with tags := p.tags.set t k }

/-- The same change to each of six like things (Lean's kernel evaluates it on literals). -/
def mapSix {α β : Type} (f : α → β) (v : Vector α 6) : Vector β 6 :=
  #v[f v[0], f v[1], f v[2], f v[3], f v[4], f v[5]]

/-- Something goes out on a channel (log 11). -/
def emit (o : Output) (s : State) : State := { s with trace := o :: s.trace }

/-- A command's effect, which no command but RESET_RELEASE and a waiting ARRIVAL has while RESET# is low: every block then
holds its values, host writes are discarded and nothing is answered (R26, R47, R94, R137, R168). -/
def whenReleased (s : State) (f : State → State) : Result := .next (if s.resetLow then s else f s)

/-- The first element that a test accepts is changed; the others stay (R112, R114). -/
def updateFirst {α : Type} (p : α → Bool) (f : α → α) : List α → List α
  | [] => []
  | x :: xs => if p x then f x :: xs else x :: updateFirst p f xs

/-! ## Aperture arithmetic (sections 1.1 and 1.2) -/

/-- The aperture's size in bytes (R2). -/
def Aperture.size (a : Aperture) : Nat := 2 ^ a.sizeCode.toNat * 1048576

/-- A page size in bytes (R3). -/
def PageSize.bytes : PageSize → Nat
  | .k4 => 4096
  | .k64 => 65536

/-- The number of pages (R3). -/
def Aperture.pages (a : Aperture) : Nat := a.size / a.pageSize.bytes

/-- The number of directory entries (R3). -/
def Aperture.dirEntries (a : Aperture) : Nat := max 1 (a.pages / 1024)

/-- Whether the range of the aperture, from base to base + size − 1, holds a master address (R2, R7). -/
def Aperture.covers (a : Aperture) (addr : Word) : Bool :=
  a.base.toNat ≤ addr.toNat && addr.toNat < a.base.toNat + a.size

/-- The aperture that a master address decodes to, among those that are not Closed (R7). -/
def State.decode (s : State) (addr : Word) : Option ApertureId :=
  allApertures.find? fun n => (s.aperture n).state != .closed && (s.aperture n).covers addr

/-- The offset of a master address in the aperture (R8). -/
def Aperture.offset (a : Aperture) (addr : Word) : Nat := addr.toNat - a.base.toNat

/-- The page index of a master address (R8). -/
def Aperture.pageIndex (a : Aperture) (addr : Word) : Nat := a.offset addr / a.pageSize.bytes

/-- The base frame of a Linear aperture (R5). -/
def Aperture.baseFrame (a : Aperture) : Nat := a.tableAddress.toNat % Config.frames

/-- The physical address of a request in a Linear aperture, without wrapping (R10). -/
def Aperture.linearAddress (a : Aperture) (addr : Word) : Nat := a.baseFrame * 4096 + a.offset addr

/-- The physical address of a request in a Walked aperture, from its page's frame (R9). -/
def Aperture.walkedAddress (a : Aperture) (frame : Frame) (addr : Word) : Nat :=
  frame.toNat * 4096 + a.offset addr % a.pageSize.bytes

/-- The frame that holds the directory of a Walked aperture (R4). -/
def Aperture.directoryFrame (a : Aperture) : Frame := BitVec.ofNat 24 (a.tableAddress.toNat * 16 / 4096)

/-- The rights that the linear access field gives to every page (R5, R61). -/
def LinearAccess.rights : LinearAccess → MapAccess
  | .readWrite => .readWrite
  | .readOnly => .read

/-! ## Checks (sections 3.3 and 3.4) -/

/-- How the region table classifies a frame (R58). -/
inductive FrameClass where
  | uncovered
  | absent
  | readOnly
  | normal
  deriving DecidableEq, Repr

/-- The class that a region's attribute gives to the frames it covers (R58). -/
def RegionAttr.frameClass : RegionAttr → FrameClass
  | .normal => .normal
  | .readOnly => .readOnly
  | .absent => .absent

/-- The class of a frame: that of the lowest-numbered region whose end frame is above it (R58). -/
def State.classify (s : State) (frame : Nat) : FrameClass :=
  match allRegions.find? fun i => decide (frame < (s.regions[i]).endFrame.toNat) with
  | some i => (s.regions[i]).attr.frameClass
  | none => .uncovered

/-- A frame is out of range when it is uncovered or Absent (R58). -/
def State.outOfRange (s : State) (frame : Nat) : Bool :=
  match s.classify frame with
  | .uncovered | .absent => true
  | .readOnly | .normal => false

/-- The access check (R61). -/
def permits : MapAccess → AccessKind → Bool
  | .noAccess, _ => false
  | .read, .read => true
  | .read, .write => false
  | .write, .read => false
  | .write, .write => true
  | .readWrite, _ => true

/-- The region check (R62). -/
def State.regionCheck (s : State) (kind : AccessKind) (frame : Nat) : Option TransFault :=
  match s.classify frame, kind with
  | .uncovered, _ => some .outOfRange
  | .absent, _ => some .outOfRange
  | .readOnly, .write => some .regionReadOnly
  | .readOnly, .read => none
  | .normal, _ => none

/-- The two checks of a use of a translation, the access check first (R60): the fault kind of the first that fails. -/
def State.check (s : State) (kind : AccessKind) (rights : MapAccess) (frame : Nat) : Option TransFault :=
  if permits rights kind then s.regionCheck kind frame else some .accessDenied

/-! ## Fault reports (sections 9.1 and 9.2) -/

/-- Whether a report matches a record: kind, master, aperture, access kind and master address / 4 KiB (R158). -/
def FaultRecord.sameFault (a b : FaultRecord) : Bool :=
  a.kind = b.kind && a.master = b.master && a.aperture = b.aperture && a.access = b.access
    && a.address.toNat / 4096 = b.address.toNat / 4096

/-- A record into which a report has coalesced (R159). -/
def FaultRecord.bump (r : FaultRecord) : FaultRecord :=
  { r with repeats := if r.repeats < Config.maxRepeat then r.repeats + 1 else r.repeats }

/-- The newest record takes a matching report; `none` when the newest does not match or there is none (R158, R159). -/
def coalesce (r : FaultRecord) : List FaultRecord → Option (List FaultRecord)
  | [] => none
  | [x] => if r.sameFault x then some [x.bump] else none
  | x :: y :: xs => (coalesce r (y :: xs)).map (x :: ·)

/-- A fault report reaches the log: it coalesces, is added, or is dropped (R158 to R160). -/
def report (r : FaultRecord) (s : State) : State :=
  match coalesce r s.log with
  | some log => setCause .faultLogged { s with log := log }
  | none =>
    if s.log.length < Config.logEntries then setCause .faultLogged { s with log := s.log ++ [r] }
    else setCause .logOverflow { s with overflow := true }

/-- The access frame as a record's 24-bit frame. An access frame that the field cannot hold leaves the recorded value
open: a free value is drawn (log 6). -/
def recordFrame (frame : Nat) (s : State) : Frame × State :=
  if frame < Config.frames then (BitVec.ofNat 24 frame, s)
  else (Config.freeFrame s.freeCount frame, { s with freeCount := s.freeCount + 1 })

/-- The report of a failed access or region check: the two region kinds carry the access frame, AccessDenied none (R154). -/
def reportCheck (k : TransFault) (m : Master) (t : Tag) (n : ApertureId) (kind : AccessKind) (addr : Word)
    (frame : Nat) (s : State) : State :=
  if k = .accessDenied then
    report ⟨.translation k, m, t, some n, kind, addr, none, 1⟩ s
  else
    let (f, s1) := recordFrame frame s
    report ⟨.translation k, m, t, some n, kind, addr, some f, 1⟩ s1

/-- A translation-group fault of a request of aperture `n`: with halt on fault on, an Open aperture becomes Halted and
ApertureHalted is set; in any other state nothing changes (R23). -/
def haltOnFault (n : ApertureId) (s : State) : State :=
  let a := s.aperture n
  if a.haltOnFault && a.state = .opened then setCause .apertureHalted (s.setAperture n { a with state := .halted })
  else s

/-! ## Completions -/

/-- A completion becomes ready: it is appended to the port's completion queue, or discarded while the port is Resetting
(R38, R43). The port's use of a tag's kind to check that a completion matches its request (R28) has no outcome for a mismatch; the
model makes no check, and `RequestLaw` says that every completion matches (log 20). -/
def pushCompletion (m : Master) (c : Completion) (s : State) : State :=
  let p := s.port m
  if p.state = .resetting then s else s.setPort m { p with completions := p.completions ++ [c] }

/-! ## Closing, draining and retirement (sections 1.4 and 1.5) -/

/-- Whether a walk context is busy for aperture `n`. -/
def State.walkBusyFor (s : State) (n : ApertureId) : Bool :=
  s.contexts.toList.any fun w => match w with
    | some w => w.aperture = n
    | none => false

/-- The drain condition: the in-flight count is 0 and no walk context is busy for the aperture (R19). -/
def State.drained (s : State) (n : ApertureId) : Bool := (s.aperture n).count = 0 && !s.walkBusyFor n

/-- Aperture `n` reaches Closed: its cache entries are removed, pinned ones included, and ApertureClosed is set (R19, R21,
R66). -/
def closeNow (n : ApertureId) (s : State) : State :=
  let s1 := s.setAperture n { s.aperture n with state := .closed }
  setCause .apertureClosed
    { s1 with
      pageCache := s1.pageCache.filter (·.aperture != n)
      dirCache := s1.dirCache.filter (·.aperture != n) }

/-- The aperture unit's test of a Draining aperture (R21). -/
def drainTest (n : ApertureId) (s : State) : State :=
  if (s.aperture n).state = .draining && s.drained n then closeNow n s else s

/-- The in-flight count of aperture `n` falls by 1 (R24). -/
def lowerCount (n : ApertureId) (s : State) : State :=
  let a := s.aperture n
  s.setAperture n { a with count := a.count - 1 }

/-- A request of aperture `n` retires: the count falls, and a Draining aperture is tested (R21, R24). -/
def retire (n : ApertureId) (s : State) : State := drainTest n (lowerCount n s)

/-! ## Park slots and write-order entries -/

/-- The slot leaves the arrival list and its walk's waiters, and becomes Free (R89, R96, R102, R103, R104). -/
def freeSlot (k : SlotId) (s : State) : State := { s with park := s.park.filter (·.num != k) }

/-- The Untranslated entry with tag `t` (R88, R112). -/
def WriteEntry.isHole (t : Tag) (e : WriteEntry) : Bool := e.state = .untranslated && e.tag = t

/-- The Untranslated write-order entry of tag `t` is removed, and the entries behind it move up (R113). -/
def removeHole (m : Master) (t : Tag) (s : State) : State :=
  let q := s.queue m
  s.setQueue m { q with writes := q.writes.eraseP (·.isHole t) }

/-- What a parked write leaves behind is removed; a parked read has no entry (R78, R96, R103). -/
def dropParkedWrite (k : ParkSlot) (s : State) : State :=
  if k.kind = .write then removeHole k.master k.tag s else s

/-- The programming-error record is written, and ProgrammingError is set (R177). -/
def programmingError (code : ErrorCode) (offset : BitVec 12) (s : State) : State :=
  setCause .programmingError { s with progError := ⟨code, offset⟩ }

end Sys2Proof.Machine
end

