-- ==== Sys2Proof/Machine/Cache.lean ====
section
/-! DEFINITION. The page cache and the directory cache (chapter 3): lookup, fill, eviction and removal. Each list holds the
valid entries in LRU order, least recent first. -/

namespace Sys2Proof.Machine

/-- The key of a page cache entry (R48). -/
def PageEntry.hasKey (n : ApertureId) (page : Nat) (e : PageEntry) : Bool := e.aperture = n && e.page = page

/-- The page cache entry that holds a key, if any (R50). -/
def State.pageLookup (s : State) (n : ApertureId) (page : Nat) : Option PageEntry :=
  s.pageCache.find? (·.hasKey n page)

/-- A hit moves the entry to the most recent position (R49, R50). -/
def touchPage (e : PageEntry) (s : State) : State :=
  { s with pageCache := s.pageCache.filter (fun x => !x.hasKey e.aperture e.page) ++ [e] }

/-- The pinned count (R48). -/
def pinnedCount (l : List PageEntry) : Nat := l.countP (·.pinned)

/-- Eviction removes the least recent unpinned entry (R52). -/
def evictPage (l : List PageEntry) : List PageEntry := l.eraseP (!·.pinned)

/-- The entries a fill is installed beside: an entry with the fill's key is replaced, and otherwise a full cache evicts
one (R51). -/
def makeRoom (n : ApertureId) (page : Nat) (l : List PageEntry) : List PageEntry :=
  if l.any (·.hasKey n page) then l.filter (fun x => !x.hasKey n page)
  else if l.length < Config.pageCacheEntries then l
  else evictPage l

/-- A page cache fill, with the pin limit (R51, R53). The cache takes a fill only for an aperture that is Open or Halted
(R51, R66). -/
def fillPage (n : ApertureId) (page : Nat) (frame : Frame) (access : MapAccess) (keep : Bool) (s : State) : State :=
  if (s.aperture n).state = .opened || (s.aperture n).state = .halted then
    let rest := makeRoom n page s.pageCache
    let room := pinnedCount rest < Config.pinLimit
    let s1 := { s with pageCache := rest ++ [⟨n, page, frame, access, keep && room⟩] }
    if keep && !room then setCause .pinLimit s1 else s1
  else s

/-- The key of a directory cache entry (R54). -/
def DirEntry.hasKey (n : ApertureId) (index : Nat) (e : DirEntry) : Bool := e.aperture = n && e.index = index

/-- The directory cache entry that holds a key, if any (R55). -/
def State.dirLookup (s : State) (n : ApertureId) (index : Nat) : Option DirEntry :=
  s.dirCache.find? (·.hasKey n index)

/-- A hit moves the entry to the most recent position (R54, R55). -/
def touchDir (e : DirEntry) (s : State) : State :=
  { s with dirCache := s.dirCache.filter (fun x => !x.hasKey e.aperture e.index) ++ [e] }

/-- The entries a directory fill is installed beside: an entry with the same key is replaced, and otherwise a full cache
evicts its least recent entry (R56). -/
def makeDirRoom (n : ApertureId) (index : Nat) (l : List DirEntry) : List DirEntry :=
  if l.any (·.hasKey n index) then l.filter (fun x => !x.hasKey n index)
  else if l.length < Config.dirCacheEntries then l
  else l.drop 1

/-- A directory fill, taken when the walk is not stale and its aperture is Open or Halted (R56). -/
def fillDir (w : Walk) (blockFrame : Frame) (s : State) : State :=
  let st := (s.aperture w.aperture).state
  if !w.stale && (st = .opened || st = .halted) then
    { s with dirCache := makeDirRoom w.aperture (w.page / 1024) s.dirCache ++ [⟨w.aperture, w.page / 1024, blockFrame⟩] }
  else s

end Sys2Proof.Machine
end

