-- ==== Sys2Proof/Machine/Operands.lean ====
section
/-! DEFINITION. The bit layouts of section 10.6: the fields of the register window's words, and of the directory entry and
map entry in memory. -/

namespace Sys2Proof.Machine

/-- A Bool as the bit it stores. -/
def bit (b : Bool) : Nat := if b then 1 else 0

/-- The word with the given fields, each a value and the position of its lowest bit. -/
def packWord (fields : List (Nat × Nat)) : Word :=
  BitVec.ofNat 32 ((fields.map fun f => f.1 * 2 ^ f.2).sum)

/-! ## Aperture words -/

/-- The page size bit: 0 4 KiB, 1 64 KiB. -/
def PageSize.ofBit (b : Bool) : PageSize := if b then .k64 else .k4

/-- The mode bit: 0 Walked, 1 Linear. -/
def Mode.ofBit (b : Bool) : Mode := if b then .linear else .walked

/-- The linear access bit: 0 ReadWrite, 1 ReadOnly. -/
def LinearAccess.ofBit (b : Bool) : LinearAccess := if b then .readOnly else .readWrite

/-- Storing the attributes word: bits 21 to 16 and 8 to 0, the other bits ignored (R25, section 10.6). -/
def Aperture.storeAttributes (a : Aperture) (v : Word) : Aperture :=
  { a with
    sizeCode := v.extractLsb' 0 4
    pageSize := PageSize.ofBit (v.getLsbD 4)
    mode := Mode.ofBit (v.getLsbD 5)
    linearAccess := LinearAccess.ofBit (v.getLsbD 6)
    posting := v.getLsbD 7
    haltOnFault := v.getLsbD 8
    masterMask := v.extractLsb' 16 6 }

/-- Storing a descriptor word (R25). -/
def Aperture.store (a : Aperture) (w : DescriptorWord) (v : Word) : Aperture :=
  match w with
  | .base => { a with base := v }
  | .attributes => a.storeAttributes v
  | .tableAddress => { a with tableAddress := v }

/-- Reading the attributes word (section 10.6). -/
def Aperture.attributesWord (a : Aperture) : Word :=
  packWord [(a.sizeCode.toNat, 0), (bit (a.pageSize = .k64), 4), (bit (a.mode = .linear), 5),
    (bit (a.linearAccess = .readOnly), 6), (bit a.posting, 7), (bit a.haltOnFault, 8), (a.masterMask.toNat, 16)]

/-- The state field of the status word (section 10.6). -/
def ApertureState.code : ApertureState → Nat
  | .closed => 0
  | .opened => 1
  | .draining => 2
  | .halted => 3

/-- The last result field of the status word (section 10.6). -/
def LastResult.code : LastResult → Nat
  | .none => 0
  | .opened => 1
  | .closed => 2
  | .halted => 3
  | .resumed => 4
  | .badState => 5
  | .badSize => 6
  | .baseMisaligned => 7
  | .tableMisaligned => 8
  | .frameMisaligned => 9
  | .noMasters => 10
  | .overlap => 11

/-- Reading the status word of an aperture (R1, section 10.6). -/
def Aperture.statusWord (a : Aperture) : Word :=
  packWord [(a.state.code, 0), (a.lastResult.code, 4), (a.count, 16)]

/-! ## Region, port control and staging words -/

/-- The attribute a region write stores: a value that names none is stored as Absent (R57, R179). -/
def RegionAttr.ofBits (v : BitVec 2) : RegionAttr :=
  if v = 0 then .normal else if v = 1 then .readOnly else .absent

/-- The attribute field of a region word. -/
def RegionAttr.code : RegionAttr → Nat
  | .normal => 0
  | .readOnly => 1
  | .absent => 2

/-- The region a full write stores: an end frame above 16,777,216 is stored as 16,777,216 (R57, R179). -/
def Region.ofWord (v : Word) : Region where
  endFrame := if v.extractLsb' 0 25 > 0x1000000#25 then 0x1000000 else v.extractLsb' 0 25
  attr := RegionAttr.ofBits (v.extractLsb' 28 2)

/-- Reading a region word. -/
def Region.word (r : Region) : Word := packWord [(r.endFrame.toNat, 0), (r.attr.code, 28)]

/-- The port state field of a port control word. -/
def PortState.code : PortState → Nat
  | .active => 0
  | .disabled => 1
  | .resetting => 2

/-- Storing a staging word (R139, section 10.6). -/
def Staging.store (g : Staging) (w : StagingWord) (v : Word) : Staging :=
  match w with
  | .zero =>
    { g with
      kind := v.extractLsb' 0 3
      aperture := (v.extractLsb' 4 3).toFin
      interrupt := v.getLsbD 7
      index := v.extractLsb' 16 16 }
  | .one => { g with firstPage := v.extractLsb' 0 16, count := v.extractLsb' 16 16 }

/-- Reading staging word 0. -/
def Staging.word0 (g : Staging) : Word :=
  packWord [(g.kind.toNat, 0), (g.aperture.val, 4), (bit g.interrupt, 7), (g.index.toNat, 16)]

/-- Reading staging word 1. -/
def Staging.word1 (g : Staging) : Word := packWord [(g.firstPage.toNat, 0), (g.count.toNat, 16)]

/-- The kind a staged kind field names, if any (R139, section 10.6). -/
def InvKind.ofBits (v : BitVec 3) : Option InvKind :=
  if v = 0 then some .page
  else if v = 1 then some .range
  else if v = 2 then some .directory
  else if v = 3 then some .aperture
  else if v = 4 then some .fence
  else none

/-- The command a push builds from the staging words, when its kind field names a kind (R140, R141). -/
def Staging.command (g : Staging) : Option InvCommand :=
  (InvKind.ofBits g.kind).map fun k => ⟨k, g.aperture, g.index, g.interrupt, g.firstPage, g.count⟩

/-! ## Fault record words -/

/-- The kind code of a fault record (section 10.6). -/
def FaultKind.code : FaultKind → Nat
  | .translation .notValid => 1
  | .translation .accessDenied => 2
  | .translation .misalignedFrame => 3
  | .translation .outOfRange => 4
  | .translation .regionReadOnly => 5
  | .translation .tableOutOfRange => 6
  | .translation .tableReadError => 7
  | .memoryError => 8
  | .postedWriteLost => 9
  | .timeout => 10
  | .protocolError => 11
  | .noAperture => 12
  | .notPermitted => 13

/-- The access kind bit: 0 Read, 1 Write. -/
def accessCode : AccessKind → Nat
  | .read => 0
  | .write => 1

/-- The four fault record words of a record (R180). -/
def FaultRecord.word (r : FaultRecord) (k : Fin 4) : Word :=
  match k with
  | 0 => packWord [(1, 31), (accessCode r.access, 12), (r.tag.val, 8), (r.master.val, 4), (r.kind.code, 0)]
  | 1 => r.address
  | 2 => match r.frame with
    | some f => packWord [(1, 31), (f.toNat, 0)]
    | none => 0
  | 3 => match r.aperture with
    | some n => packWord [(r.repeats, 16), (1, 15), (n.val, 0)]
    | none => packWord [(r.repeats, 16)]

/-- The code field of the programming-error record (section 10.6). -/
def ErrorCode.code : ErrorCode → Nat
  | .none => 0
  | .accessWidth => 1
  | .descriptorBusy => 2
  | .badCommand => 3

/-- Reading the programming-error record. -/
def ProgError.word (p : ProgError) : Word := packWord [(p.code.code, 0), (p.offset.toNat, 16)]

/-! ## Table entries in memory -/

/-- The 4-byte entry at byte address `addr`, taken from the aligned beat that holds it: the lower half if the address is a
multiple of 8, and the upper half otherwise (R72). -/
def entryOfBeat (addr : Nat) (beat : Beat) : Word :=
  if addr % 8 = 0 then beat.extractLsb' 0 32 else beat.extractLsb' 32 32

/-- The valid bit of a directory entry or map entry (R182). -/
def entryValid (e : Word) : Bool := e.getLsbD 0

/-- The block frame of a directory entry, and the frame of a map entry: bits 31 to 8 (R182, log 21). -/
def entryFrame (e : Word) : Frame := e.extractLsb' 8 24

/-- The keep bit of a map entry (R182). -/
def entryKeep (e : Word) : Bool := e.getLsbD 3

/-- The access field of a map entry (R182). -/
def entryAccess (e : Word) : MapAccess :=
  let v := e.extractLsb' 1 2
  if v = 0 then .noAccess else if v = 1 then .read else if v = 2 then .write else .readWrite

end Sys2Proof.Machine
end

