-- ==== Sys2Proof/Machine/Walker.lean ====
section
/-! DEFINITION. The table walker (chapter 4): waiters, the directory and block phases, the judging of a walk completion, the
takeover of an Idle context; and the commands WALK_COMPLETION and TAKEOVER. -/

namespace Sys2Proof.Machine

/-- The waiters of the walk in context `c`, oldest first: the slots that Wait on it, in arrival order (R68, log 17). -/
def State.waiters (s : State) (c : ContextId) : List ParkSlot := s.park.filter (·.placement = .waiting c)

/-- The Queued slots, oldest first (R89). -/
def State.queuedSlots (s : State) : List ParkSlot := s.park.filter (·.placement = .queued)

/-- A busy context for a key, if any (R69). -/
def State.contextFor (s : State) (n : ApertureId) (page : Nat) : Option ContextId :=
  ([0, 1] : List ContextId).find? fun c => match s.context c with
    | some w => w.aperture = n && w.page = page
    | none => false

/-- The Idle context a walk starts in: context 0 when both are Idle (R69). -/
def State.idleContext (s : State) : Option ContextId :=
  ([0, 1] : List ContextId).find? fun c => (s.context c).isNone

/-- The byte address of the entry that a walk's read is for (R9, R71, R74). -/
def Walk.entryAddress (w : Walk) (a : Aperture) : Nat :=
  match w.phase with
  | .directoryRead => a.tableAddress.toNat * 16 + 4 * (w.page / 1024)
  | .blockRead f => f.toNat * 4096 + 4 * (w.page % 1024)

/-- The context makes its read ready at the memory port; the moment is its ready time (R72). -/
def makePending (c : ContextId) (w : Walk) (s : State) : State :=
  { s.setContext c (some { w with read := .pending s.readySeq }) with readySeq := s.readySeq + 1 }

/-- Entry to the block phase, with the block frame in the walk's phase (R74). Answers the walk's result when the walk
completes at the entry. -/
def enterBlock (c : ContextId) (w : Walk) (f : Frame) (s : State) : State × Option WalkResult :=
  let w1 := { w with phase := .blockRead f, read := .none }
  let s1 := s.setContext c (some w1)
  if (s1.waiters c).isEmpty || (s1.aperture w1.aperture).state = .draining then (s1, some .discarded)
  else if w1.stale then (s1, some .discarded)
  else if s1.outOfRange f.toNat then (s1, some (.fault (.tableOutOfRange f)))
  else (makePending c w1 s1, none)

/-- Entry to the directory phase: the directory cache lookup, and on a miss the directory frame check and the directory read
made ready (R71). Answers the walk's result when the walk completes at the entry. -/
def enterDirectory (c : ContextId) (w : Walk) (s : State) : State × Option WalkResult :=
  match s.dirLookup w.aperture (w.page / 1024) with
  | some e => enterBlock c { w with dirUsed := true } e.blockFrame (touchDir e s)
  | none =>
    let w1 := { w with phase := .directoryRead, read := .none, dirUsed := false }
    let f := (s.aperture w.aperture).directoryFrame
    if s.outOfRange f.toNat then (s.setContext c (some w1), some (.fault (.tableOutOfRange f)))
    else (makePending c w1 s, none)

/-- A walk for a key starts in context `c` (R69, R70). -/
def startWalk (c : ContextId) (n : ApertureId) (page : Nat) (s : State) : State × Option WalkResult :=
  enterDirectory c ⟨.directoryRead, n, page, .none, false, false⟩ s

/-! ## Settling waiters -/

/-- The fault kind of a walk fault. -/
def walkFaultKind : WalkFault → TransFault
  | .notValid => .notValid
  | .misalignedFrame _ => .misalignedFrame
  | .tableOutOfRange _ => .tableOutOfRange
  | .tableReadError _ => .tableReadError

/-- The frame a walk fault records (R78, R154). -/
def walkFaultFrame : WalkFault → Option Frame
  | .notValid => none
  | .misalignedFrame f => some f
  | .tableOutOfRange f => some f
  | .tableReadError f => some f

/-- A waiter receives a Fault: the completion, the report, its write entry removed, its slot freed, its retirement, and the
halt it may cause, in this order (R78). -/
def faultWaiter (k : ParkSlot) (kind : TransFault) (rep : State → State) (s : State) : State :=
  haltOnFault k.aperture
    (retire k.aperture
      (freeSlot k.num
        (dropParkedWrite k (rep (pushCompletion k.master ⟨k.tag, .fault kind⟩ s)))))

/-- A walk fault given to one waiter (R78). -/
def faultByWalk (f : WalkFault) (s : State) (k : ParkSlot) : State :=
  faultWaiter k (walkFaultKind f)
    (report ⟨.translation (walkFaultKind f), k.master, k.tag, some k.aperture, k.kind, k.address, walkFaultFrame f, 1⟩) s

/-- A read that has passed its checks joins its master's read issue list (R110). -/
def appendRead (m : Master) (e : ReadEntry) (s : State) : State :=
  let q := s.queue m
  s.setQueue m { q with reads := q.reads ++ [e] }

/-- The Untranslated entry of tag `t` becomes Translated in place (R112). -/
def translateHole (m : Master) (t : Tag) (phys : PhysAddr) (posted : Bool) (s : State) : State :=
  let q := s.queue m
  s.setQueue m
    { q with writes := updateFirst (·.isHole t) (fun e => { e with state := .translated phys, posted := posted }) q.writes }

/-- A write becomes Translated: in a posting aperture its completion Okay is given in the same event (R118). -/
def postOkay (m : Master) (t : Tag) (posting : Bool) (s : State) : State :=
  if posting then pushCompletion m ⟨t, .okayWrite⟩ s else s

/-- A waiter that has passed its checks is settled by its kind, and its slot is freed (R77). -/
def passWaiter (k : ParkSlot) (phys : PhysAddr) (s : State) : State :=
  let posting := (s.aperture k.aperture).posting
  freeSlot k.num
    (match k.kind with
    | .read => appendRead k.master ⟨k.tag, k.arrival, k.address, phys, k.length, k.aperture, false⟩ s
    | .write => postOkay k.master k.tag posting (translateHole k.master k.tag phys posting s))

/-- One waiter of a successful walk: its own address, its own checks (R77, R78). -/
def serveWaiter (frame : Frame) (access : MapAccess) (s : State) (k : ParkSlot) : State :=
  let phys := (s.aperture k.aperture).walkedAddress frame k.address
  match s.check k.kind access (phys / 4096) with
  | none => passWaiter k (BitVec.ofNat 36 phys) s
  | some kind =>
    faultWaiter k kind (reportCheck kind k.master k.tag k.aperture k.kind k.address (phys / 4096)) s

/-! ## Walk completion -/

/-- Cases 4 and 5 of R76: the result reaches the waiters and the context goes Idle. Answers whether it went Idle. A
discarded result is not judged here unless no case of R76 applies, and then nothing happens (log 20). -/
def settleWalk (c : ContextId) (w : Walk) (r : WalkResult) (s : State) : State × Bool :=
  match r with
  | .discarded => (s, false)
  | .fault f => (((s.waiters c).foldl (faultByWalk f) s).setContext c none, true)
  | .success frame access keep =>
    let s1 := fillPage w.aperture w.page frame access keep s
    (((s1.waiters c).foldl (serveWaiter frame access) s1).setContext c none, true)

/-- The five cases of R76, in order; a stale walk restarts in the same context (R81). Answers whether the context went
Idle. -/
def judgeWalk (c : ContextId) (w : Walk) (r : WalkResult) (s : State) : State × Bool :=
  if (s.waiters c).isEmpty || (s.aperture w.aperture).state = .draining then (s.setContext c none, true)
  else if w.stale then
    match enterDirectory c { w with stale := false } s with
    | (s1, none) => (s1, false)
    | (s1, some r1) => settleWalk c w r1 s1
  else settleWalk c w r s

/-- The Idle report of a context whose walk was of aperture `n` (R79). -/
def idleReport (n : ApertureId) (s : State) : State := drainTest n s

/-- The Queued slots of a key become Waiting on context `c` (R70, R92). -/
def joinQueued (c : ContextId) (n : ApertureId) (page : Nat) (s : State) : State :=
  { s with park := s.park.map fun k =>
      if k.placement = .queued && k.aperture = n && k.page = page then { k with placement := .waiting c } else k }

/-- The Idle context `c` is offered to the Queued slots: the oldest takes it, those of the same key join, and a walk that
completes in the same event offers the context again (R70, R71). Each round takes at least one Queued slot, so a bound of
the number of busy slots is never reached. -/
def takeover : Nat → ContextId → State → State
  | 0, _, s => s
  | fuel + 1, c, s =>
    match s.queuedSlots with
    | [] => s
    | k :: _ =>
      match startWalk c k.aperture k.page (joinQueued c k.aperture k.page s) with
      | (s1, none) => s1
      | (s1, some r) =>
        match s1.context c with
        | none => s1
        | some w =>
          match judgeWalk c w r s1 with
          | (s2, false) => s2
          | (s2, true) => takeover fuel c (idleReport w.aperture s2)

/-- A walk completion: it is judged, and a context that goes Idle reports and is then offered to the Queued slots (R76,
R79). -/
def completeWalk (c : ContextId) (r : WalkResult) (s : State) : State :=
  match s.context c with
  | none => s
  | some w =>
    match judgeWalk c w r s with
    | (s1, false) => s1
    | (s1, true) => takeover s1.park.length c (idleReport w.aperture s1)

/-- What follows an entry to a phase: the walk completion, if the entry ended the walk (R71, R74). -/
def finishEntry (c : ContextId) (p : State × Option WalkResult) : State :=
  match p.2 with
  | none => p.1
  | some r => completeWalk c r p.1

/-! ## Memory completions of a walk -/

/-- The memory completion of a directory read is judged (R73). -/
def directoryDone (c : ContextId) (w : Walk) (r : BusResult) (s : State) : State :=
  let a := s.aperture w.aperture
  match r with
  | .error => completeWalk c (.fault (.tableReadError a.directoryFrame)) s
  | .okay beats =>
    let e := entryOfBeat (w.entryAddress a) beats[0]
    if entryValid e then
      let s1 := if !w.dirUsed && !(s.waiters c).isEmpty then fillDir w (entryFrame e) s else s
      finishEntry c (enterBlock c w (entryFrame e) s1)
    else completeWalk c (.fault .notValid) s

/-- The result that a map entry read gives (R75, R182). -/
def mapResult (w : Walk) (f : Frame) (a : Aperture) (r : BusResult) : WalkResult :=
  match r with
  | .error => .fault (.tableReadError f)
  | .okay beats =>
    let e := entryOfBeat (w.entryAddress a) beats[0]
    if !entryValid e then .fault .notValid
    else if a.pageSize = .k64 && (entryFrame e).toNat % 16 != 0 then .fault (.misalignedFrame (entryFrame e))
    else .success (entryFrame e) (entryAccess e) (entryKeep e)

/-- The memory completion of a Walk record is handed to its context, whose read state becomes none (R131). -/
def walkReadDone (c : ContextId) (r : BusResult) (s : State) : State :=
  match s.context c with
  | none => s
  | some w =>
    let w1 := { w with read := .none }
    let s1 := s.setContext c (some w1)
    match w1.phase with
    | .directoryRead => directoryDone c w1 r s1
    | .blockRead f => completeWalk c (mapResult w1 f (s1.aperture w1.aperture) r) s1

/-! ## Commands -/

/-- WALK_COMPLETION (R76): the walk in context `c` completes with the result `r`, if it is due: the context is busy and no
read of its walk is outstanding (R72). Memory completions, starts and restarts take it in their own event (log 2). -/
def execWalkCompletion (c : ContextId) (r : WalkResult) (s : State) : Result :=
  whenReleased s fun s =>
    match s.context c with
    | none => s
    | some w => if w.read = .none then completeWalk c r s else s

/-- TAKEOVER (R70): the Idle context `c` is taken by the oldest Queued slot, if both are there (log 2). -/
def execTakeover (c : ContextId) (s : State) : Result :=
  whenReleased s fun s => if (s.context c).isNone then takeover s.park.length c s else s

end Sys2Proof.Machine
end

