-- ==== Sys2Proof/Machine/ParkTable.lean ====
section
/-! DEFINITION. The park table (chapter 5): parking, the park timer, expiry and the draining abort; and the commands TICK and
EXPIRY. -/

namespace Sys2Proof.Machine

/-- The lowest-numbered Free slot, if any (R91). -/
def State.freeSlotNumber (s : State) : Option SlotId :=
  allSlots.find? fun k => s.park.all (·.num != k)

/-- A request is parked in Free slot `num` and placed by the walker: it joins the walk for its key, starts one in an Idle
context, or is Queued (R69, R91). -/
def parkRequest (num : SlotId) (m : Master) (r : Request) (n : ApertureId) (page arrival : Nat) (s : State) : State :=
  let slot (p : Placement) : ParkSlot :=
    ⟨num, m, r.tag, r.kind, n, page, r.address, r.length, arrival, p, s.parkTimeout, 0⟩
  match s.contextFor n page with
  | some c => { s with park := s.park ++ [slot (.waiting c)] }
  | none =>
    match s.idleContext with
    | some c => finishEntry c (startWalk c n page { s with park := s.park ++ [slot (.waiting c)] })
    | none => { s with park := s.park ++ [slot .queued] }

/-- A slot's timer has expired: its ticks counted have reached its limit + 1 (R94). -/
def ParkSlot.due (k : ParkSlot) : Bool := k.limit != 0 && k.limit.toNat + 1 ≤ k.ticks

/-- The busy slots whose timer limit is not 0 count a tick (R94, R95). -/
def ParkSlot.tick (k : ParkSlot) : ParkSlot := if k.limit = 0 then k else { k with ticks := k.ticks + 1 }

/-- An expired slot is settled: Timeout to its master, its report, its write entry removed, its slot freed, its retirement
(R96, R97). -/
def expireSlot (s : State) (k : ParkSlot) : State :=
  retire k.aperture
    (freeSlot k.num
      (dropParkedWrite k
        (report ⟨.timeout, k.master, k.tag, some k.aperture, k.kind, k.address, none, 1⟩
          (pushCompletion k.master ⟨k.tag, .timeout⟩ s))))

/-- One tick: every timer counts, and the slots that expire are settled in arrival order (R94, R98). -/
def takeTick (s : State) : State :=
  let s1 := { s with park := s.park.map ParkSlot.tick }
  (s1.park.filter ParkSlot.due).foldl expireSlot s1

/-- A slot is aborted as its aperture enters Draining (R103); the drain condition is tested when all are (R20, R21). -/
def abortSlot (s : State) (k : ParkSlot) : State :=
  lowerCount k.aperture (freeSlot k.num (dropParkedWrite k (pushCompletion k.master ⟨k.tag, .aborted⟩ s)))

/-- The aborts of an aperture that enters Draining, oldest slot first (R20, R103). -/
def abortParked (n : ApertureId) (s : State) : State := (s.park.filter (·.aperture = n)).foldl abortSlot s

/-- TICK (R94): the park table takes a tick, with the expiries it brings (R98). -/
def execTick (s : State) : Result := whenReleased s takeTick

/-- EXPIRY (R96): slot `k` expires, if it is busy and its timer is due. A tick takes its expiries itself (log 2). -/
def execExpiry (k : SlotId) (s : State) : Result :=
  whenReleased s fun s =>
    match s.park.find? (fun x => x.num = k && x.due) with
    | some x => expireSlot s x
    | none => s

end Sys2Proof.Machine
end

