-- ==== Sys2Proof/Machine/ApertureUnit.lean ====
section
/-! DEFINITION. The aperture unit (chapter 1): the four aperture commands, the end of a drain, descriptor writes; and the
commands OPEN, CLOSE, HALT, RESUME, BAD_COMMAND, END_OF_DRAIN and DESCRIPTOR_WRITE. -/

namespace Sys2Proof.Machine

/-- The byte offset of word `k` of aperture `n`'s block, `k` a byte offset in it (section 10.1). -/
def apertureOffset (n : ApertureId) (k : Nat) : BitVec 12 := BitVec.ofNat 12 (0x100 + 0x20 * n.val + k)

/-- The byte offset of a descriptor word (section 10.1). -/
def descriptorOffset (n : ApertureId) : DescriptorWord → BitVec 12
  | .base => apertureOffset n 0x00
  | .attributes => apertureOffset n 0x04
  | .tableAddress => apertureOffset n 0x08

/-- The ranges of two apertures overlap (R15). -/
def Aperture.overlaps (a b : Aperture) : Bool :=
  a.base.toNat < b.base.toNat + b.size && b.base.toNat < a.base.toNat + a.size

/-- The six checks of an Open, in order: the result of the first that fails, or Opened (R14, R15). -/
def State.openCheck (s : State) (n : ApertureId) : LastResult :=
  let a := s.aperture n
  if 8 < a.sizeCode.toNat then .badSize
  else if a.base.toNat % a.size != 0 then .baseMisaligned
  else if a.mode = .walked && a.tableAddress.toNat % 16 != 0 then .tableMisaligned
  else if a.mode = .linear && a.pageSize = .k64 && a.baseFrame % 16 != 0 then .frameMisaligned
  else if a.masterMask = 0 then .noMasters
  else if allApertures.any fun o => o != n && (s.aperture o).state != .closed && a.overlaps (s.aperture o) then .overlap
  else .opened

/-- Setting the last result of aperture `n`. -/
def setResult (n : ApertureId) (r : LastResult) (s : State) : State :=
  s.setAperture n { s.aperture n with lastResult := r }

/-- A command that the aperture's state does not allow (R22). -/
def refuseCommand (n : ApertureId) (s : State) : State := setCause .programmingError (setResult n .badState s)

/-- An Open command (R14, R16, R22). -/
def openCommand (n : ApertureId) (s : State) : State :=
  let a := s.aperture n
  if a.state = .closed then
    if s.openCheck n = .opened then s.setAperture n { a with state := .opened, lastResult := .opened }
    else setCause .programmingError (setResult n (s.openCheck n) s)
  else refuseCommand n s

/-- A Close command (R19, R20, R22). -/
def closeCommand (n : ApertureId) (s : State) : State :=
  let a := s.aperture n
  if a.state = .opened || a.state = .halted then
    let s1 := setResult n .closed s
    if s1.drained n then closeNow n s1
    else drainTest n (abortParked n (s1.setAperture n { s1.aperture n with state := .draining }))
  else refuseCommand n s

/-- A Halt command (R17, R22). -/
def haltCommand (n : ApertureId) (s : State) : State :=
  let a := s.aperture n
  if a.state = .opened then
    setCause .apertureHalted (s.setAperture n { a with state := .halted, lastResult := .halted })
  else refuseCommand n s

/-- A Resume command (R18, R22). -/
def resumeCommand (n : ApertureId) (s : State) : State :=
  let a := s.aperture n
  if a.state = .halted then s.setAperture n { a with state := .opened, lastResult := .resumed }
  else refuseCommand n s

/-- A full write to the command word of aperture `n`, judged by its whole value (R22, R181). -/
def writeCommand (n : ApertureId) (v : Word) (s : State) : State :=
  if v = 1 then openCommand n s
  else if v = 2 then closeCommand n s
  else if v = 3 then haltCommand n s
  else if v = 4 then resumeCommand n s
  else programmingError .badCommand (apertureOffset n 0x0C) s

/-- A full write to a descriptor word (R25). -/
def writeDescriptor (n : ApertureId) (w : DescriptorWord) (v : Word) (s : State) : State :=
  let a := s.aperture n
  if a.state = .closed then s.setAperture n (a.store w v)
  else programmingError .descriptorBusy (descriptorOffset n w) s

/-! ## Commands -/

/-- OPEN (R14). -/
def execOpen (n : ApertureId) (s : State) : Result := whenReleased s (openCommand n)

/-- CLOSE (R19). -/
def execClose (n : ApertureId) (s : State) : Result := whenReleased s (closeCommand n)

/-- HALT (R17). -/
def execHalt (n : ApertureId) (s : State) : Result := whenReleased s (haltCommand n)

/-- RESUME (R18). -/
def execResume (n : ApertureId) (s : State) : Result := whenReleased s (resumeCommand n)

/-- BAD_COMMAND (R22): a full write of a value to a command word, judged by its whole value (R181). -/
def execBadCommand (n : ApertureId) (value : Word) (s : State) : Result := whenReleased s (writeCommand n value)

/-- END_OF_DRAIN (R21): a Draining aperture that meets the drain condition moves to Closed. The events that can bring the
condition about test it themselves (log 2). -/
def execEndOfDrain (n : ApertureId) (s : State) : Result := whenReleased s (drainTest n)

/-- DESCRIPTOR_WRITE (R25). -/
def execDescriptorWrite (n : ApertureId) (w : DescriptorWord) (value : Word) (s : State) : Result :=
  whenReleased s (writeDescriptor n w value)

end Sys2Proof.Machine
end

