-- ==== Sys2Proof/Machine/InvQueue.lean ====
section
/-! DEFINITION. The invalidation queue and fences (chapter 8); and the commands STAGING_WRITE, PUSH, the four invalidation
commands at the head, FENCE and FENCE_COMPLETION. -/

namespace Sys2Proof.Machine

/-! ## Invalidation commands -/

/-- The command is malformed for an aperture that is not Closed (R143). -/
def InvCommand.malformed (q : InvCommand) (a : Aperture) : Bool :=
  a.state != .closed &&
  match q.kind with
  | .page => a.pages ≤ q.firstPage.toNat
  | .range => q.count.toNat = 0 || a.pages < q.firstPage.toNat + q.count.toNat
  | .directory => a.dirEntries ≤ q.index.toNat
  | .aperture => false
  | .fence => false

/-- The pages a command covers, by aperture and page index: page cache entries and walks alike (R65, R80, R144). -/
def InvCommand.coversPage (q : InvCommand) (n : ApertureId) (page : Nat) : Bool :=
  n = q.aperture &&
  match q.kind with
  | .page => page = q.firstPage.toNat
  | .range => q.firstPage.toNat ≤ page && page < q.firstPage.toNat + q.count.toNat
  | .directory => page / 1024 = q.index.toNat
  | .aperture => true
  | .fence => false

/-- The directory cache entries a command covers (R65, R144). -/
def InvCommand.coversDir (q : InvCommand) (n : ApertureId) (index : Nat) : Bool :=
  n = q.aperture &&
  match q.kind with
  | .page => false
  | .range => false
  | .directory => index = q.index.toNat
  | .aperture => true
  | .fence => false

/-- A covered walk is marked stale; a named Closed aperture covers no walk (R80, R143). -/
def InvCommand.markStale (q : InvCommand) (w : Walk) : Walk :=
  if q.coversPage w.aperture w.page then { w with stale := true } else w

/-- A well-formed command executes: the caches lose what it covers, and the walks it covers become stale (R65, R80,
R144). -/
def executeInv (q : InvCommand) (s : State) : State :=
  { s with
    pageCache := s.pageCache.filter fun e => !q.coversPage e.aperture e.page
    dirCache := s.dirCache.filter fun e => !q.coversDir e.aperture e.index
    contexts := #v[(s.context 0).map q.markStale, (s.context 1).map q.markStale] }

/-- The command at the head is judged against its aperture as it stands (R143): a command that names a Closed aperture
covers nothing, a malformed one is discarded with InvalidationError, and any other executes. -/
def judgeInv (q : InvCommand) (s : State) : State :=
  if (s.aperture q.aperture).state = .closed then s
  else if q.malformed (s.aperture q.aperture) then setCause .invalidationError s
  else executeInv q s

/-! ## Fences -/

/-- An Untranslated entry is no item; a Translated or an Issued one is (R145). -/
def WriteEntry.isItem (e : WriteEntry) : Bool := e.state != .untranslated

/-- A Translated entry, not yet issued. -/
def WriteEntry.isTranslated (e : WriteEntry) : Bool :=
  match e.state with
  | .translated _ => true
  | .untranslated | .issued _ => false

/-- A record of source Read or Write (R123). -/
def AccessRecord.item : AccessRecord → Option ItemRecord
  | .discarded => none
  | .walk _ _ _ => none
  | .read r => some r
  | .write r => some r

/-- The fence marks of a master's two queues (R145). -/
def IssueQueues.mark (q : IssueQueues) : IssueQueues where
  reads := q.reads.map fun e => { e with counted := true }
  writes := q.writes.map fun e => if e.isItem then { e with counted := true } else e

/-- The fence mark of a record (R145). -/
def AccessRecord.mark : AccessRecord → AccessRecord
  | .discarded => .discarded
  | .walk c n p => .walk c n p
  | .read r => .read { r with counted := true }
  | .write r => .write { r with counted := true }

/-- The items of a master's queues that are not records as well: reads, and Translated writes (R145). -/
def IssueQueues.itemCount (q : IssueQueues) : Nat := q.reads.length + q.writes.countP (·.isTranslated)

/-- The number of items in the part; an Issued write is counted once, by its record (R145). -/
def State.itemCount (s : State) : Nat :=
  (allMasters.map fun m => (s.queue m).itemCount).sum + s.inFlight.countP (·.item.isSome)

/-- A fence starts: every item is marked, and the counter is set to their number (R145). -/
def startFence (s : State) : State :=
  { s with
    queues := mapSix IssueQueues.mark s.queues
    inFlight := s.inFlight.map AccessRecord.mark
    fenceCounter := s.itemCount
    fenceWaiting := true }

/-- A fence completes: its token, its cause if it asked for one, and it leaves the queue (R148). -/
def completeFence (q : InvCommand) (rest : List InvCommand) (s : State) : State :=
  let s1 := { s with fenceToken := q.index, invQueue := rest, fenceWaiting := false }
  if q.interrupt then setCause .fenceDone s1 else s1

/-- The commands from the head on are handled, until the queue is empty or a fence is left waiting (R142). -/
def handleHead : List InvCommand → State → State
  | [], s => { s with invQueue := [] }
  | q :: rest, s =>
    if q.kind = .fence then
      let s1 := startFence { s with invQueue := q :: rest }
      if s1.fenceCounter = 0 then handleHead rest (completeFence q rest s1) else s1
    else handleHead rest (judgeInv q { s with invQueue := rest })

/-- The waiting fence completes if its counter is 0, and the commands behind it are handled in the same event (R142,
R148). -/
def fenceTest (s : State) : State :=
  match s.invQueue with
  | [] => s
  | q :: rest => if s.fenceWaiting && s.fenceCounter = 0 then handleHead rest (completeFence q rest s) else s

/-- A number of counted items retire: the counter falls, and at 0 the waiting fence completes (R147, R148). With none
counted nothing changes. -/
def lowerFence (k : Nat) (s : State) : State :=
  if k = 0 then s else fenceTest { s with fenceCounter := s.fenceCounter - k }

/-- A push (R140): an unknown kind is a programming error at the Push word (0x068), a full queue drops the command, and
otherwise it is appended, and handled at once when it is the head. -/
def pushStaged (s : State) : State :=
  match s.staging.command with
  | none => programmingError .badCommand 0x068 s
  | some q =>
    if s.invQueue.length < Config.invQueueEntries then
      if s.invQueue.isEmpty then handleHead [q] s else { s with invQueue := s.invQueue ++ [q] }
    else setCause .invalidationOverflow s

/-- The head of the queue, being a command of kind `k` that no waiting fence is, is handled, with the commands behind it
(R142). -/
def handleHeadOfKind (k : InvKind) (s : State) : State :=
  match s.invQueue with
  | [] => s
  | q :: rest => if q.kind = k && !s.fenceWaiting then handleHead (q :: rest) s else s

/-! ## Commands -/

/-- STAGING_WRITE (R139): the fields are stored for later pushes. -/
def execStagingWrite (w : StagingWord) (value : Word) (s : State) : Result :=
  whenReleased s fun s => { s with staging := s.staging.store w value }

/-- PUSH (R140), whatever the value written. -/
def execPush (_value : Word) (s : State) : Result := whenReleased s pushStaged

/-- INVALIDATE_PAGE (R144): an InvalidatePage command that is the head of the queue executes. Pushes and fence completions
handle the head in their own event (log 2). -/
def execInvalidatePage (s : State) : Result := whenReleased s (handleHeadOfKind .page)

/-- INVALIDATE_RANGE (R144): an InvalidateRange command that is the head of the queue executes (log 2). -/
def execInvalidateRange (s : State) : Result := whenReleased s (handleHeadOfKind .range)

/-- INVALIDATE_DIRECTORY (R144): an InvalidateDirectory command that is the head of the queue executes (log 2). -/
def execInvalidateDirectory (s : State) : Result := whenReleased s (handleHeadOfKind .directory)

/-- INVALIDATE_APERTURE (R144): an InvalidateAperture command that is the head of the queue executes (log 2). -/
def execInvalidateAperture (s : State) : Result := whenReleased s (handleHeadOfKind .aperture)

/-- FENCE (R145): a fence that has become the head of the queue starts (log 2). -/
def execFence (s : State) : Result := whenReleased s (handleHeadOfKind .fence)

/-- FENCE_COMPLETION (R148): the waiting fence completes, its counter being 0 (log 2). -/
def execFenceCompletion (s : State) : Result := whenReleased s fenceTest

end Sys2Proof.Machine
end

