-- ==== Sys2Proof/WellFormed.lean ====
section
/-! DEFINITION. Well-formed commands: the limits on operands that the types of Syntax.lean do not already state. -/

namespace Sys2Proof

/-- A request covers 1 to 8 beats (R29). -/
def Request.wellFormed (r : Request) : Bool :=
  1 ≤ r.length && r.length ≤ 8

/-- A narrow access carries one, two or three byte lanes (R168). -/
def narrowLanes (lanes : BitVec 4) : Bool :=
  lanes != 0 && lanes != 15

/-- The command word values that name a command (R181). -/
def namesCommand (value : Word) : Bool :=
  value == 1 || value == 2 || value == 3 || value == 4

/-- Well-formedness of a command. -/
def Instr.wellFormed : Instr → Bool
  | .arrival _ r => r.wellFormed
  | .narrowWrite _ lanes _ => narrowLanes lanes
  | .badCommand _ value => !namesCommand value
  | .acceptance _ | .grant | .memoryCompletion _ | .walkCompletion _ _ | .takeover _ | .tick | .expiry _
  | .openAperture _ | .closeAperture _ | .haltAperture _ | .resumeAperture _ | .endOfDrain _
  | .descriptorWrite _ _ _ | .portEnableWrite _ _ | .portReset _ _ | .endOfPortReset _ | .globalEnable _
  | .softReset | .causeClear _ | .causeEnableWrite _ | .parkTimeoutWrite _ | .regionWrite _ _ | .stagingWrite _ _
  | .push _ | .invalidatePage | .invalidateRange | .invalidateDirectory | .invalidateAperture | .fence
  | .fenceCompletion | .pop _ | .hostWrite _ _ | .pinReset | .resetRelease _ _ => true

end Sys2Proof
end

