-- ==== Sys2Proof/Machine/MasterPort.lean ====
section
/-! DEFINITION. The master ports (chapter 2): judging an arrival, taking it, delivery of completions, the port enable and Port
Reset; and the commands ARRIVAL, ACCEPTANCE, PORT_ENABLE_WRITE, PORT_RESET and END_OF_PORT_RESET. -/

namespace Sys2Proof.Machine

/-! ## Judging an arrival (section 2.3) -/

/-- Steps 1 to 4: the state of the port and the form of the request (R31, R32). -/
def State.formCheck (s : State) (m : Master) (r : Request) : Option RefuseReason :=
  let p := s.port m
  if p.state = .resetting then some .portResetting
  else if !s.globalEnable || p.state = .disabled then some .disabled
  else if (p.tag r.tag).isSome then some .tagInUse
  else if r.address.toNat % 8 != 0 then some .misaligned
  else if 64 < r.address.toNat % 64 + 8 * r.length then some .lineCross
  else none

/-- Steps 6 to 8: the master mask, then the state of the aperture (R33). -/
def Aperture.admission (a : Aperture) (m : Master) : Option RefuseReason :=
  if !a.masterMask.getLsbD m.val then some .notPermitted
  else match a.state with
    | .draining => some .apertureClosing
    | .halted => some .apertureHalted
    | .opened | .closed => none

/-- Step 9: a write needs room in its master's write-order queue; then a miss needs a Free park slot (R34). -/
def State.lacksResource (s : State) (m : Master) (r : Request) (n : ApertureId) : Bool :=
  let a := s.aperture n
  (r.kind = .write && Config.writeQueueEntries ≤ (s.queue m).writes.length)
    || (a.mode = .walked && (s.pageLookup n (a.pageIndex r.address)).isNone && s.freeSlotNumber.isNone)

/-- The answer to an arrival, and the aperture it is taken for when the answer is Taken (R30 to R35). -/
def State.judge (s : State) (m : Master) (r : Request) : Answer × Option ApertureId :=
  match s.formCheck m r with
  | some reason => (.refuse reason, none)
  | none =>
    match s.decode r.address with
    | none => (.refuse .noAperture, none)
    | some n =>
      match (s.aperture n).admission m with
      | some reason => (.refuse reason, none)
      | none => if s.lacksResource m r n then (.retry, none) else (.taken, some n)

/-- The report of a refusal, for the reasons that are logged (R32, R33). -/
def reportRefusal (reason : RefuseReason) (m : Master) (r : Request) (s : State) : State :=
  let made (kind : FaultKind) (n : Option ApertureId) : FaultRecord :=
    ⟨kind, m, r.tag, n, r.kind, r.address, none, 1⟩
  match reason with
  | .tagInUse | .misaligned | .lineCross => report (made .protocolError (s.decode r.address)) s
  | .noAperture => report (made .noAperture none) s
  | .notPermitted => report (made .notPermitted (s.decode r.address)) s
  | .disabled | .portResetting | .apertureClosing | .apertureHalted => s

/-! ## Taking a request (R35) -/

/-- A write joins the tail of its master's write-order queue (R111). -/
def appendWrite (m : Master) (e : WriteEntry) (s : State) : State :=
  let q := s.queue m
  s.setQueue m { q with writes := q.writes ++ [e] }

/-- A request that has its translation at its arrival: it passes its checks and joins its queue, or it fails them and
retires at once (R35, R60). -/
def takeTranslated (m : Master) (r : Request) (n : ApertureId) (arrival : Nat) (rights : MapAccess) (phys : Nat)
    (s : State) : State :=
  let posting := (s.aperture n).posting
  match s.check r.kind rights (phys / 4096) with
  | some k =>
    retire n (haltOnFault n (reportCheck k m r.tag n r.kind r.address (phys / 4096)
      (pushCompletion m ⟨r.tag, .fault k⟩ s)))
  | none =>
    match r.body with
    | .read beats => appendRead m ⟨r.tag, arrival, r.address, BitVec.ofNat 36 phys, beats, n, false⟩ s
    | .write beats =>
      postOkay m r.tag posting
        (appendWrite m ⟨r.tag, arrival, r.address, beats, n, .translated (BitVec.ofNat 36 phys), posting, false⟩ s)

/-- A request that misses the page cache is parked; a write first leaves an Untranslated entry (R35, R91, R111). -/
def takeMissed (m : Master) (r : Request) (n : ApertureId) (arrival : Nat) (s : State) : State :=
  match s.freeSlotNumber with
  | none => s
  | some k =>
    let page := (s.aperture n).pageIndex r.address
    match r.body with
    | .read _ => parkRequest k m r n page arrival s
    | .write beats =>
      parkRequest k m r n page arrival
        (appendWrite m ⟨r.tag, arrival, r.address, beats, n, .untranslated, false, false⟩ s)

/-- The tag becomes InUse, the request takes its place in the taken order, and the in-flight count rises (R24, R35, R36,
R109). -/
def admitRequest (m : Master) (r : Request) (n : ApertureId) (s : State) : State :=
  let p := s.port m
  let a := s.aperture n
  (s.setPort m { p.setTag r.tag (some r.kind) with taken := p.taken + 1 }).setAperture n { a with count := a.count + 1 }

/-- An arrival answered Taken for aperture `n` is placed according to how its translation is found (R35, R50). -/
def takeRequest (m : Master) (r : Request) (n : ApertureId) (s : State) : State :=
  let arrival := (s.port m).taken
  let a := s.aperture n
  let s1 := admitRequest m r n s
  match a.mode with
  | .linear => takeTranslated m r n arrival a.linearAccess.rights (a.linearAddress r.address) s1
  | .walked =>
    match s.pageLookup n (a.pageIndex r.address) with
    | some e => takeTranslated m r n arrival e.access (a.walkedAddress e.frame r.address) (touchPage e s1)
    | none => takeMissed m r n arrival s1

/-- An arrival is judged: its one answer goes out, then what the answer brings (R30). -/
def judgeArrival (m : Master) (r : Request) (s : State) : State :=
  let (a, n) := s.judge m r
  let s1 := emit (.answer m r.tag a) s
  match a, n with
  | .taken, some n => takeRequest m r n s1
  | .refuse reason, _ => reportRefusal reason m r s1
  | _, _ => s1

/-! ## Port Reset (section 2.6) -/

/-- Whether an access of master `m` is issued and not completed (R44, R123). -/
def State.hasAccess (s : State) (m : Master) : Bool :=
  s.inFlight.any fun x => match x.item with
    | some r => r.master = m
    | none => false

/-- A Port Reset ends: every tag is Free, the port takes its stored enable's state, PortResetDone is set (R44). -/
def endPortReset (m : Master) (s : State) : State :=
  let p := s.port m
  setCause .portResetDone
    (s.setPort m { p with tags := Vector.replicate 4 none, state := if p.enable then .active else .disabled })

/-- The Port Reset of master `m` ends if its port is Resetting and no access of it remains (R44, R134). -/
def portResetTest (m : Master) (s : State) : State :=
  if (s.port m).state = .resetting && !s.hasAccess m then endPortReset m s else s

/-- The port reset indication goes out (R45). -/
def indicate (m : Master) (s : State) : State := emit (.indication m) s

/-- The apertures of the requests that a Port Reset of `m` removes, one for each request: parked requests, Translated
writes, reads on the read issue list (R41, R121). -/
def State.sweptApertures (s : State) (m : Master) : List ApertureId :=
  (s.park.filter (·.master = m)).map (·.aperture)
    ++ ((s.queue m).writes.filter (·.isTranslated)).map (·.aperture)
    ++ (s.queue m).reads.map (·.aperture)

/-- The fence-counted items that a Port Reset of `m` removes (R121, R147). -/
def State.sweptCounted (s : State) (m : Master) : Nat :=
  (s.queue m).writes.countP (fun e => e.isTranslated && e.counted) + (s.queue m).reads.countP (·.counted)

/-- An Issued write-order entry. -/
def WriteEntry.isIssued (e : WriteEntry) : Bool :=
  match e.state with
  | .issued _ => true
  | .untranslated | .translated _ => false

/-- A Port Reset removes the master's work that can be recalled, and the port becomes Resetting (R41, R104, R121). -/
def sweep (m : Master) (s : State) : State :=
  let s1 := { s with park := s.park.filter (·.master != m) }
  let s2 := s1.setQueue m { reads := [], writes := (s1.queue m).writes.filter (·.isIssued) }
  s2.setPort m { s2.port m with completions := [], state := .resetting }

/-- A Port Reset command (R41, R44): ignored while Resetting; otherwise the indication, the sweep, the retirements it makes,
and the end of the reset at once if no access is issued. The order of the effects is log 9's. -/
def resetPort (m : Master) (s : State) : State :=
  if (s.port m).state = .resetting then s
  else
    let s1 := (s.sweptApertures m).foldl (fun t n => retire n t) (sweep m (indicate m s))
    portResetTest m (lowerFence (s.sweptCounted m) s1)

/-- The enable of a port control write is stored; the port state follows it unless a Port Reset runs (R40). -/
def storeEnable (m : Master) (enable : Bool) (s : State) : State :=
  let p := s.port m
  s.setPort m
    { p with
      enable := enable
      state := if p.state = .resetting then .resetting else if enable then .active else .disabled }

/-! ## Commands -/

/-- ARRIVAL (R30). While RESET# is low the request waits on the channel, unanswered (R47). -/
def execArrival (m : Master) (r : Request) (s : State) : Result :=
  if !r.wellFormed then .refused .requestLength
  else if s.resetLow then
    if (s.port m).pendingArrival.isSome then .fault .requestChannelBusy
    else .next (s.setPort m { s.port m with pendingArrival := some r })
  else .next (judgeArrival m r s)

/-- ACCEPTANCE (R39): the offered completion is delivered and its tag becomes Free. With no completion offered nothing
happens (R42). -/
def execAcceptance (m : Master) (s : State) : Result :=
  whenReleased s fun s =>
    match (s.port m).completions with
    | [] => s
    | c :: rest =>
      emit (.delivered m c) (s.setPort m { (s.port m).setTag c.tag none with completions := rest })

/-- PORT_ENABLE_WRITE (R40): a port control write that carries 0 in Port Reset. -/
def execPortEnableWrite (m : Master) (enable : Bool) (s : State) : Result := whenReleased s (storeEnable m enable)

/-- PORT_RESET (R41): a port control write that carries 1 in Port Reset; its enable is stored first (R40). -/
def execPortReset (m : Master) (enable : Bool) (s : State) : Result :=
  whenReleased s fun s => resetPort m (storeEnable m enable s)

/-- END_OF_PORT_RESET (R44): the Port Reset ends, if it runs and no issued access of the master remains. Memory completions
and Port Reset commands take it in their own event (log 2). -/
def execEndOfPortReset (m : Master) (s : State) : Result := whenReleased s (portResetTest m)

end Sys2Proof.Machine
end

