-- ==== Sys2Proof/Machine/MemoryPort.lean ====
section
/-! DEFINITION. The memory port and the issue arbiter (chapters 6 and 7): eligibility, candidates, grants, memory completions
and retirement; and the commands GRANT and MEMORY_COMPLETION. -/

namespace Sys2Proof.Machine

/-! ## Candidates (section 6.4) -/

/-- Two master addresses lie in the same 64-byte line (R115). -/
def sameLine (a b : Word) : Bool := a.toNat / 64 = b.toNat / 64

/-- The overlap hold: an earlier-taken write of the read's line is in the queue, in any state (R115). -/
def IssueQueues.holds (q : IssueQueues) (e : ReadEntry) : Bool :=
  q.writes.any fun w => w.arrival < e.arrival && sameLine w.address e.address

/-- The first entry that is not Issued, if it is Translated: the one eligible write (R114). -/
def IssueQueues.eligibleWrite (q : IssueQueues) : Option WriteEntry :=
  match q.writes.find? (!·.isIssued) with
  | some e => if e.isTranslated then some e else none
  | none => none

/-- The earliest-taken of a list of reads (R116). -/
def earliestRead : List ReadEntry → Option ReadEntry
  | [] => none
  | e :: es =>
    match earliestRead es with
    | none => some e
    | some f => if e.arrival ≤ f.arrival then some e else some f

/-- The earliest-taken eligible read (R115, R116). -/
def IssueQueues.eligibleRead (q : IssueQueues) : Option ReadEntry := earliestRead (q.reads.filter (!q.holds ·))

/-- What a master offers the arbiter, or what the walker claims (R116, R125). -/
inductive Claim where
  | walk (c : ContextId)
  | read (m : Master) (e : ReadEntry)
  | write (m : Master) (e : WriteEntry)
  deriving DecidableEq, Repr

/-- A master's candidate: the earliest-taken of its eligible items (R116). -/
def State.candidate (s : State) (m : Master) : Option Claim :=
  match (s.queue m).eligibleRead, (s.queue m).eligibleWrite with
  | none, none => none
  | some r, none => some (.read m r)
  | none, some w => some (.write m w)
  | some r, some w => if r.arrival < w.arrival then some (.read m r) else some (.write m w)

/-! ## The arbiter (section 7.2) -/

/-- The ready time of context `c`'s pending read, if it has one (R72). -/
def State.readyTime (s : State) (c : ContextId) : Option Nat :=
  match s.context c with
  | some w => match w.read with
    | .pending t => some t
    | .none | .issued => none
  | none => none

/-- The walk context that claims the slot: of two, the one whose read became pending first (R126). -/
def State.walkClaim (s : State) : Option Claim :=
  match s.readyTime 0, s.readyTime 1 with
  | none, none => none
  | some _, none => some (.walk 0)
  | none, some _ => some (.walk 1)
  | some t0, some t1 => if t0 ≤ t1 then some (.walk 0) else some (.walk 1)

/-- The masters in turn, starting after the one granted last (R127). -/
def turnOrder (p : Master) : List Master := [p + 1, p + 2, p + 3, p + 4, p + 5, p]

/-- The claimant that a grant chooses, if any: a walk context before any master (R126, R127). -/
def State.chosen (s : State) : Option Claim :=
  match s.walkClaim with
  | some c => some c
  | none => (turnOrder s.rrPointer).findSome? s.candidate

/-- A record joins the tail of the in-flight list, and its access goes out on the memory bus (R124, R128). -/
def issue (x : AccessRecord) (a : BusAccess) (s : State) : State :=
  emit (.issued a) { s with inFlight := s.inFlight ++ [x] }

/-- A walker read is granted: it becomes issued, at the aligned beat that holds the entry (R72, R128). -/
def grantWalk (c : ContextId) (s : State) : State :=
  match s.context c with
  | none => s
  | some w =>
    let phys : PhysAddr := BitVec.ofNat 36 (w.entryAddress (s.aperture w.aperture) / 8 * 8)
    issue (.walk c w.aperture phys) (.read phys 1) (s.setContext c (some { w with read := .issued }))

/-- A master's read is granted: its entry leaves the list, and the pointer names the master (R117, R127, R128). -/
def grantRead (m : Master) (e : ReadEntry) (s : State) : State :=
  let q := s.queue m
  issue (.read ⟨m, e.tag, e.aperture, e.address, e.phys, e.length, e.counted⟩) (.read e.phys e.length)
    { s.setQueue m { q with reads := q.reads.erase e } with rrPointer := m }

/-- An entry as it becomes Issued (R114). -/
def WriteEntry.issue (e : WriteEntry) : WriteEntry :=
  match e.state with
  | .translated p => { e with state := .issued p }
  | .untranslated | .issued _ => e

/-- The physical address of an entry that has one (R108). -/
def WriteEntry.phys (e : WriteEntry) : PhysAddr :=
  match e.state with
  | .translated p => p
  | .issued p => p
  | .untranslated => 0

/-- A master's write is granted: its entry becomes Issued and stays in its place, and the pointer names the master (R114,
R127, R128). -/
def grantWrite (m : Master) (e : WriteEntry) (s : State) : State :=
  let q := s.queue m
  issue (.write ⟨m, e.tag, e.aperture, e.address, e.phys, e.beats.length, e.counted⟩) (.write e.phys e.beats)
    { s.setQueue m { q with writes := updateFirst (!·.isIssued) WriteEntry.issue q.writes } with rrPointer := m }

/-- A grant: with fewer than 8 records and a claimant, the chosen claimant's access is issued (R125, R128). -/
def takeGrant (s : State) : State :=
  if s.inFlight.length < Config.maxInFlight then
    match s.chosen with
    | none => s
    | some (.walk c) => grantWalk c s
    | some (.read m e) => grantRead m e s
    | some (.write m e) => grantWrite m e s
  else s

/-! ## Memory completions (section 7.3) -/

/-- The fault report of an Error on a master's access (R119, R120, R135). -/
def reportMemory (kind : FaultKind) (access : AccessKind) (r : ItemRecord) (s : State) : State :=
  report ⟨kind, r.master, r.tag, some r.aperture, access, r.address, some (BitVec.ofNat 24 (r.phys.toNat / 4096)), 1⟩ s

/-- The completion of a Read record is handed on (R132); while the port is Resetting its completion is discarded (R43). -/
def readDone (r : ItemRecord) (res : BusResult) (s : State) : State :=
  match res with
  | .okay beats => pushCompletion r.master ⟨r.tag, .okayRead (beats.toList.take r.length)⟩ s
  | .error => reportMemory .memoryError .read r (pushCompletion r.master ⟨r.tag, .memoryError⟩ s)

/-- The completion of a Write record is handed to its master's write-order queue, whose head it belongs to (R119, R120,
R133). -/
def writeDone (r : ItemRecord) (res : BusResult) (s : State) : State :=
  let q := s.queue r.master
  match q.writes with
  | [] => s
  | e :: rest =>
    if e.isIssued then
      let s1 := s.setQueue r.master { q with writes := rest }
      match res, e.posted with
      | .okay _, false => pushCompletion r.master ⟨e.tag, .okayWrite⟩ s1
      | .okay _, true => s1
      | .error, false => reportMemory .memoryError .write r (pushCompletion r.master ⟨e.tag, .memoryError⟩ s1)
      | .error, true =>
        reportMemory (if (s.port r.master).state = .resetting then .memoryError else .postedWriteLost) .write r s1
    else s

/-- The retirement of the item of a Read or Write record: the in-flight count, then the fence counter, then the end of a
Port Reset (R134). -/
def retireRecord (r : ItemRecord) (s : State) : State :=
  portResetTest r.master (lowerFence (if r.counted then 1 else 0) (retire r.aperture s))

/-- A memory completion of the record `x`, which has left the list (R130). -/
def recordDone (x : AccessRecord) (res : BusResult) (s : State) : State :=
  match x with
  | .discarded => s
  | .walk c _ _ => walkReadDone c res s
  | .read r => retireRecord r (readDone r res s)
  | .write r => retireRecord r (writeDone r res s)

/-! ## Commands -/

/-- GRANT (R128). With 8 records in the list, or no claimant, no grant is made (R125). -/
def execGrant (s : State) : Result := whenReleased s takeGrant

/-- MEMORY_COMPLETION (R130): it belongs to the oldest record, which is removed. -/
def execMemoryCompletion (res : BusResult) (s : State) : Result :=
  if s.resetLow then .next s
  else match s.inFlight with
    | [] => .fault .completionWithoutAccess
    | x :: rest => .next (recordDone x res { s with inFlight := rest })

end Sys2Proof.Machine
end

