-- ==== Sys2Proof/Machine/Resets.lean ====
section
/-! DEFINITION. The resets: the soft reset (section 10.4), RESET# low and its release (R26, R47); and the commands SOFT_RESET,
PIN_RESET and RESET_RELEASE. -/

namespace Sys2Proof.Machine

/-- The descriptors after a reset, for a strap (R1, R26, R27). -/
def aperturesAfterReset (pass : Bool) : Vector Aperture 8 :=
  if pass then (Vector.replicate 8 Aperture.reset).set 0 Aperture.strapOpened else Vector.replicate 8 Aperture.reset

/-- A port unit as a reset leaves it (R28, R46). The numbering of the taken order goes on (R109, log 12). -/
def Port.afterReset (p : Port) : Port := { Port.reset with taken := p.taken }

/-- A port unit while RESET# is low: a request presented stays pending (R28, R47). -/
def Port.held (p : Port) : Port := { Port.reset with taken := p.taken, pendingArrival := p.pendingArrival }

/-- Every port signals the port reset indication (R45). The rules give no order between the six; the trace takes that of the
masters (log 11). -/
def indicateAll (s : State) : State := allMasters.foldl (fun t m => indicate m t) s

/-- The soft reset (R173): every block takes its values after a soft reset, records in flight are marked for discard, and
the latched strap, the cause enables and the FenceDone token are kept. -/
def softReset (s : State) : State :=
  indicateAll
    { s with
      apertures := aperturesAfterReset s.passLatched
      ports := mapSix Port.afterReset s.ports
      queues := Vector.replicate 6 ⟨[], []⟩
      pageCache := []
      dirCache := []
      regions := regionsReset
      contexts := Vector.replicate 2 none
      park := []
      inFlight := s.inFlight.map fun _ => .discarded
      rrPointer := 5
      staging := Staging.reset
      invQueue := []
      fenceWaiting := false
      fenceCounter := 0
      log := []
      overflow := false
      causes := 0
      globalEnable := s.passLatched
      parkTimeout := 0
      progError := ⟨.none, 0⟩ }

/-- RESET# low: every block holds its pin reset values, and the memory bus is reset with the part (R26, R137). What a reset
does not reach stays: the latched strap (R26), a request presented (R47), and the model's own fields. -/
def hold (s : State) : State :=
  { State.reset with
    resetLow := true
    passLatched := s.passLatched
    ports := mapSix Port.held s.ports
    readySeq := s.readySeq
    trace := s.trace
    freeCount := s.freeCount
    pending := s.pending }

/-- A request that waited through RESET# is judged (R47). -/
def judgeWaiting (s : State) (m : Master) : State :=
  match (s.port m).pendingArrival with
  | none => s
  | some r => judgeArrival m r (s.setPort m { s.port m with pendingArrival := none })

/-- The release of RESET#: PASS is latched, A0 and the global Enable take their strap values, and every port signals the
indication (R26, R45, R172). -/
def release (pass : Bool) (s : State) : State :=
  indicateAll
    { hold s with
      resetLow := false
      passLatched := pass
      apertures := aperturesAfterReset pass
      globalEnable := pass }

/-- SOFT_RESET (R173). -/
def execSoftReset (s : State) : Result := whenReleased s softReset

/-- PIN_RESET (R26): RESET# goes low; while it is low already, it stays so. -/
def execPinReset (s : State) : Result := .next (hold s)

/-- RESET_RELEASE (R26, R47): the release, then the waiting arrivals, each judged once, in the order given and after them in
the order of the masters (log 10). With RESET# high already nothing happens (log 19). -/
def execResetRelease (pass : Bool) (order : List Master) (s : State) : Result :=
  .next (if s.resetLow then (order ++ allMasters).foldl judgeWaiting (release pass s) else s)

end Sys2Proof.Machine
end

