-- ==== Sys2Proof/Machine/Window.lean ====
section
/-! DEFINITION. The register window (chapter 10): the register map, the words the window owns, host writes and host reads;
and the commands GLOBAL_ENABLE, CAUSE_CLEAR, CAUSE_ENABLE_WRITE, PARK_TIMEOUT_WRITE, REGION_WRITE, POP, NARROW_WRITE and
HOST_WRITE. -/

namespace Sys2Proof.Machine

/-! ## The register map (section 10.1) -/

/-- The words of the window, and `unassigned` for every other offset (section 10.1). -/
inductive WindowWord where
  | identification
  | configuration
  | globalControl
  | globalStatus
  | cause
  | causeEnable
  | parkTimeout
  | programmingError
  | fenceToken
  | region (i : RegionId)
  | portControl (m : Master)
  | staging (w : StagingWord)
  | push
  | queueStatus
  | faultRecord (k : Fin 4)
  | pop
  | logStatus
  | descriptor (n : ApertureId) (w : DescriptorWord)
  | command (n : ApertureId)
  | status (n : ApertureId)
  | unassigned
  deriving DecidableEq, Repr

/-- The word of an aperture's block at a byte offset in the block (section 10.1). -/
def apertureWord (n : ApertureId) (k : Nat) : WindowWord :=
  if k = 0x00 then .descriptor n .base
  else if k = 0x04 then .descriptor n .attributes
  else if k = 0x08 then .descriptor n .tableAddress
  else if k = 0x0C then .command n
  else if k = 0x10 then .status n
  else .unassigned

/-- The word of the window at a byte offset (section 10.1). -/
def wordAtOffset (o : Nat) : WindowWord :=
  if o = 0x000 then .identification
  else if o = 0x004 then .configuration
  else if o = 0x008 then .globalControl
  else if o = 0x00C then .globalStatus
  else if o = 0x010 then .cause
  else if o = 0x014 then .causeEnable
  else if o = 0x018 then .parkTimeout
  else if o = 0x01C then .programmingError
  else if o = 0x020 then .fenceToken
  else if o < 0x030 then .unassigned
  else if o < 0x040 then .region (Fin.ofNat 4 ((o - 0x030) / 4))
  else if o < 0x058 then .portControl (Fin.ofNat 6 ((o - 0x040) / 4))
  else if o < 0x060 then .unassigned
  else if o = 0x060 then .staging .zero
  else if o = 0x064 then .staging .one
  else if o = 0x068 then .push
  else if o = 0x06C then .queueStatus
  else if o < 0x080 then .unassigned
  else if o < 0x090 then .faultRecord (Fin.ofNat 4 ((o - 0x080) / 4))
  else if o = 0x090 then .pop
  else if o = 0x094 then .logStatus
  else if o < 0x100 then .unassigned
  else if o < 0x200 then apertureWord (Fin.ofNat 8 ((o - 0x100) / 0x20)) (o % 0x20)
  else .unassigned

/-- The byte offset of a word index (R168). -/
def byteOffset (w : WordIndex) : BitVec 12 := BitVec.ofNat 12 (4 * w.toNat)

/-- The word of the window at a word index. -/
def wordAt (w : WordIndex) : WindowWord := wordAtOffset (4 * w.toNat)

/-! ## Host writes -/

/-- A full write to the global control word: SoftReset 1 performs the soft reset and stores no Enable (R172, R173). -/
def writeGlobalControl (v : Word) (s : State) : State :=
  if v.getLsbD 1 then softReset s else { s with globalEnable := v.getLsbD 0 }

/-- A full write to a port control word: the enable is stored, then a Port Reset bit of 1 is taken (R40, R179). -/
def writePortControl (m : Master) (v : Word) (s : State) : State :=
  if v.getLsbD 1 then resetPort m (storeEnable m (v.getLsbD 0) s) else storeEnable m (v.getLsbD 0) s

/-- A full write to the cause word (R164, R178). -/
def writeCause (v : Word) (s : State) : State := clearCauses (v.extractLsb' 0 10) s

/-- A full write to the cause enable word (R165, R178). -/
def writeCauseEnable (v : Word) (s : State) : State := { s with enables := v.extractLsb' 0 10 }

/-- A full write to the park timeout word (R93, R176). -/
def writeParkTimeout (v : Word) (s : State) : State := { s with parkTimeout := v.extractLsb' 0 8 }

/-- A full write to a region word (R57, R179). -/
def writeRegion (i : RegionId) (v : Word) (s : State) : State := { s with regions := s.regions.set i (Region.ofWord v) }

/-- A full write to the Pop word: the oldest record is removed (R162). -/
def popRecord (s : State) : State := { s with log := s.log.tail }

/-- A full host write is handed to the owner of its word; one to a read-only word or an unassigned offset is discarded and
sets nothing (R168, R170). -/
def fullWrite (w : WordIndex) (v : Word) (s : State) : State :=
  match wordAt w with
  | .globalControl => writeGlobalControl v s
  | .cause => writeCause v s
  | .causeEnable => writeCauseEnable v s
  | .parkTimeout => writeParkTimeout v s
  | .region i => writeRegion i v s
  | .portControl m => writePortControl m v s
  | .staging g => { s with staging := s.staging.store g v }
  | .push => pushStaged s
  | .pop => popRecord s
  | .descriptor n d => writeDescriptor n d v s
  | .command n => writeCommand n v s
  | .identification | .configuration | .globalStatus | .programmingError | .fenceToken | .queueStatus
  | .faultRecord _ | .logStatus | .status _ | .unassigned => s

/-! ## Host reads (R168, R175, R183) -/

/-- The discard count: the records marked for discard (R123). -/
def State.discardCount (s : State) : Nat := s.inFlight.countP (· = .discarded)

/-- The number of busy walk contexts (R68). -/
def State.walksInFlight (s : State) : Nat := s.contexts.toList.countP (·.isSome)

/-- The number of InUse tags of a port (R28). -/
def Port.tagsInUse (p : Port) : Nat := p.tags.toList.countP (·.isSome)

/-- The global status word (R175). -/
def State.globalStatus (s : State) : Word :=
  packWord [(s.park.length, 0), (s.walksInFlight, 8), (s.inFlight.length, 12), (s.discardCount, 16),
    (s.invQueue.length, 24)]

/-- The configuration word (R171). -/
def State.configuration (s : State) : Word := packWord [(bit s.passLatched, 0), (6, 4), (16, 8), (32, 16)]

/-- The port control word (R179). -/
def Port.controlWord (p : Port) : Word := packWord [(bit p.enable, 0), (p.state.code, 4), (p.tagsInUse, 8)]

/-- The queue status word (R138). -/
def State.queueStatus (s : State) : Word :=
  packWord [(s.invQueue.length, 0), (bit s.fenceWaiting, 4), (s.fenceCounter, 16)]

/-- The value of a word of the window (sections 10.3 to 10.6). -/
def State.readWord (s : State) : WindowWord → Word
  | .identification => 0x4A261201
  | .configuration => s.configuration
  | .globalControl => packWord [(bit s.globalEnable, 0)]
  | .globalStatus => s.globalStatus
  | .cause => s.causes.setWidth 32
  | .causeEnable => s.enables.setWidth 32
  | .parkTimeout => s.parkTimeout.setWidth 32
  | .programmingError => s.progError.word
  | .fenceToken => s.fenceToken.setWidth 32
  | .region i => (s.regions[i]).word
  | .portControl m => (s.port m).controlWord
  | .staging .zero => s.staging.word0
  | .staging .one => s.staging.word1
  | .push => 0
  | .queueStatus => s.queueStatus
  | .faultRecord k => match s.log with
    | [] => 0
    | r :: _ => r.word k
  | .pop => 0
  | .logStatus => packWord [(s.log.length, 0), (bit s.overflow, 8)]
  | .descriptor n .base => (s.aperture n).base
  | .descriptor n .attributes => (s.aperture n).attributesWord
  | .descriptor n .tableAddress => (s.aperture n).tableAddress
  | .command _ => 0
  | .status n => (s.aperture n).statusWord
  | .unassigned => 0

/-- The bits of a word that a set of byte lanes addresses (R168, R169). -/
def laneMask (lanes : BitVec 4) : Word :=
  packWord [(bit (lanes.getLsbD 0) * 255, 0), (bit (lanes.getLsbD 1) * 255, 8), (bit (lanes.getLsbD 2) * 255, 16),
    (bit (lanes.getLsbD 3) * 255, 24)]

/-- What a host read of the word at an index returns in the lanes it addresses, 0 in the others; while RESET# is low every
word reads 0 (R168, R169). A read changes no state of the part, so it is this function of the state and no command. -/
def State.hostRead (s : State) (w : WordIndex) (lanes : BitVec 4) : Word :=
  if s.resetLow then 0 else s.readWord (wordAt w) &&& laneMask lanes

/-! ## Commands -/

/-- GLOBAL_ENABLE (R172): a full write to the global control word with SoftReset 0. -/
def execGlobalEnable (enable : Bool) (s : State) : Result := whenReleased s fun s => { s with globalEnable := enable }

/-- CAUSE_CLEAR (R164). -/
def execCauseClear (value : Word) (s : State) : Result := whenReleased s (writeCause value)

/-- CAUSE_ENABLE_WRITE (R165). -/
def execCauseEnableWrite (value : Word) (s : State) : Result := whenReleased s (writeCauseEnable value)

/-- PARK_TIMEOUT_WRITE (R93). -/
def execParkTimeoutWrite (value : Word) (s : State) : Result := whenReleased s (writeParkTimeout value)

/-- REGION_WRITE (R57). -/
def execRegionWrite (i : RegionId) (value : Word) (s : State) : Result := whenReleased s (writeRegion i value)

/-- POP (R162), whatever the value written. -/
def execPop (_value : Word) (s : State) : Result := whenReleased s popRecord

/-- NARROW_WRITE (R169): discarded, with AccessWidth at the addressed word. An access with all four lanes is a full one
(R168). -/
def execNarrowWrite (word : WordIndex) (lanes : BitVec 4) (value : Word) (s : State) : Result :=
  if lanes = 0 then .refused .noByteLanes
  else whenReleased s fun s =>
    if lanes = 15 then fullWrite word value s else programmingError .accessWidth (byteOffset word) s

/-- HOST_WRITE (R170): a full host write at any offset (log 13). -/
def execHostWrite (word : WordIndex) (value : Word) (s : State) : Result := whenReleased s (fullWrite word value)

end Sys2Proof.Machine
end

