-- ==== Sys2Proof/Machine/Dispatch.lean ====
section
/-! DEFINITION. One arm per command: the call of its meaning. -/

namespace Sys2Proof.Machine

def exec (i : Instr) (s : State) : Host.Outcome State Fault Refusal :=
  match i with
  | .arrival m r => Sys2Proof.Machine.execArrival m r s
  | .acceptance m => Sys2Proof.Machine.execAcceptance m s
  | .grant => Sys2Proof.Machine.execGrant s
  | .memoryCompletion r => Sys2Proof.Machine.execMemoryCompletion r s
  | .walkCompletion c r => Sys2Proof.Machine.execWalkCompletion c r s
  | .takeover c => Sys2Proof.Machine.execTakeover c s
  | .tick => Sys2Proof.Machine.execTick s
  | .expiry k => Sys2Proof.Machine.execExpiry k s
  | .openAperture n => Sys2Proof.Machine.execOpen n s
  | .closeAperture n => Sys2Proof.Machine.execClose n s
  | .haltAperture n => Sys2Proof.Machine.execHalt n s
  | .resumeAperture n => Sys2Proof.Machine.execResume n s
  | .badCommand n value => Sys2Proof.Machine.execBadCommand n value s
  | .endOfDrain n => Sys2Proof.Machine.execEndOfDrain n s
  | .descriptorWrite n w value => Sys2Proof.Machine.execDescriptorWrite n w value s
  | .portEnableWrite m enable => Sys2Proof.Machine.execPortEnableWrite m enable s
  | .portReset m enable => Sys2Proof.Machine.execPortReset m enable s
  | .endOfPortReset m => Sys2Proof.Machine.execEndOfPortReset m s
  | .globalEnable enable => Sys2Proof.Machine.execGlobalEnable enable s
  | .softReset => Sys2Proof.Machine.execSoftReset s
  | .causeClear value => Sys2Proof.Machine.execCauseClear value s
  | .causeEnableWrite value => Sys2Proof.Machine.execCauseEnableWrite value s
  | .parkTimeoutWrite value => Sys2Proof.Machine.execParkTimeoutWrite value s
  | .regionWrite j value => Sys2Proof.Machine.execRegionWrite j value s
  | .stagingWrite w value => Sys2Proof.Machine.execStagingWrite w value s
  | .push value => Sys2Proof.Machine.execPush value s
  | .invalidatePage => Sys2Proof.Machine.execInvalidatePage s
  | .invalidateRange => Sys2Proof.Machine.execInvalidateRange s
  | .invalidateDirectory => Sys2Proof.Machine.execInvalidateDirectory s
  | .invalidateAperture => Sys2Proof.Machine.execInvalidateAperture s
  | .fence => Sys2Proof.Machine.execFence s
  | .fenceCompletion => Sys2Proof.Machine.execFenceCompletion s
  | .pop value => Sys2Proof.Machine.execPop value s
  | .narrowWrite word lanes value => Sys2Proof.Machine.execNarrowWrite word lanes value s
  | .hostWrite word value => Sys2Proof.Machine.execHostWrite word value s
  | .pinReset => Sys2Proof.Machine.execPinReset s
  | .resetRelease pass order => Sys2Proof.Machine.execResetRelease pass order s

end Sys2Proof.Machine
end

