-- ==== Sys2Proof/Safety.lean ====
section
/-! DEFINITION. What counts as a sound state: the laws the manual says are kept, and the settled conditions that follow from
its "in the same event" rules. Each is a predicate of the state, so that a statement can say that every step keeps it. -/

namespace Sys2Proof.Machine

/-- Two page cache entries hold the same key. -/
def PageEntry.sameKey (a b : PageEntry) : Prop := a.aperture = b.aperture ∧ a.page = b.page

/-- The law of the page cache: at most 32 valid entries, at most one per key, at most 8 pinned (R48). -/
structure PageCacheLaw (s : State) : Prop where
  size : s.pageCache.length ≤ Config.pageCacheEntries
  keys : s.pageCache.Pairwise fun a b => ¬ a.sameKey b
  pinned : pinnedCount s.pageCache ≤ Config.pinLimit

/-- The directory cache holds at most 8 valid entries, at most one per key (R54). -/
structure DirCacheLaw (s : State) : Prop where
  size : s.dirCache.length ≤ Config.dirCacheEntries
  keys : s.dirCache.Pairwise fun a b => ¬ (a.aperture = b.aperture ∧ a.index = b.index)

/-- The law of the two caches: neither holds an entry for an aperture that is Closed (R66). -/
structure ClosedLaw (s : State) : Prop where
  pages : ∀ e ∈ s.pageCache, (s.aperture e.aperture).state ≠ .closed
  dirs : ∀ e ∈ s.dirCache, (s.aperture e.aperture).state ≠ .closed

/-- The law of the Overlap check: no two apertures that are not Closed overlap (R15); each has a legal size code and an
aligned base (R2). -/
structure ApertureLaw (s : State) : Prop where
  legal : ∀ n, (s.aperture n).state ≠ .closed →
    (s.aperture n).sizeCode.toNat ≤ 8 ∧ (s.aperture n).base.toNat % (s.aperture n).size = 0
  apart : ∀ n o, n ≠ o → (s.aperture n).state ≠ .closed → (s.aperture o).state ≠ .closed →
    (s.aperture n).overlaps (s.aperture o) = false

/-- The law of the walker: never two walks for one key (R69); a Queued slot's key is walked by no context, and no context is
Idle while a slot is Queued (R69, R92). -/
structure WalkLaw (s : State) : Prop where
  distinct : ∀ v w, s.context 0 = some v → s.context 1 = some w → ¬ (v.aperture = w.aperture ∧ v.page = w.page)
  queued : ∀ k ∈ s.queuedSlots, ∀ c w, s.context c = some w → ¬ (w.aperture = k.aperture ∧ w.page = k.page)
  busy : s.queuedSlots ≠ [] → ∀ c, (s.context c).isSome

/-- The ready times of pending reads lie behind the next one, and two pending reads have different ones (R126). -/
structure ReadyLaw (s : State) : Prop where
  below : ∀ c t, s.readyTime c = some t → t < s.readySeq
  apart : ∀ t u, s.readyTime 0 = some t → s.readyTime 1 = some u → t ≠ u

/-- The park table holds a slot number at most once, so at most 16 busy slots (R88, R90). -/
def ParkLaw (s : State) : Prop := s.park.Pairwise fun a b => a.num ≠ b.num

/-- The law of the memory port: at most 8 accesses in flight, those marked for discard included (R125); the marked ones are
the oldest (R136). -/
structure InFlightLaw (s : State) : Prop where
  size : s.inFlight.length ≤ Config.maxInFlight
  oldest : s.inFlight.Pairwise fun a b => b = .discarded → a = .discarded

/-- The law of the fault log: at most 8 records, each with a repeat count from 1 to 255 (R157). -/
structure LogLaw (s : State) : Prop where
  size : s.log.length ≤ Config.logEntries
  repeats : ∀ r ∈ s.log, 1 ≤ r.repeats ∧ r.repeats ≤ Config.maxRepeat

/-- The fence-counted items of a master's queues that are not records as well. -/
def IssueQueues.markedCount (q : IssueQueues) : Nat :=
  q.reads.countP (·.counted) + q.writes.countP fun e => e.isTranslated && e.counted

/-- Whether a record carries the fence-counted mark. -/
def AccessRecord.marked (x : AccessRecord) : Bool :=
  match x.item with
  | some r => r.counted
  | none => false

/-- The items that carry the fence-counted mark, an Issued write counted once, by its record (R145, R146). -/
def State.markedCount (s : State) : Nat :=
  (allMasters.map fun m => (s.queue m).markedCount).sum + s.inFlight.countP AccessRecord.marked

/-- The law of the fence: the counter is the number of marked items still in the part (R138, R145 to R147); an Untranslated
entry carries no mark (R113, R145); and the queue holds commands only while a fence waits at its head with its counter above
0 (R142, R148), at most 8 of them (R138). -/
structure FenceLaw (s : State) : Prop where
  counter : s.fenceCounter = s.markedCount
  holes : ∀ m, ∀ e ∈ (s.queue m).writes, e.state = .untranslated → e.counted = false
  waiting : s.fenceWaiting = true → 0 < s.fenceCounter ∧ ∃ q rest, s.invQueue = q :: rest ∧ q.kind = .fence
  idle : s.fenceWaiting = false → s.invQueue = [] ∧ s.fenceCounter = 0
  size : s.invQueue.length ≤ Config.invQueueEntries

/-- The law of the port states: Active or Disabled by the enable, and Resetting only while an issued access of the master
remains (R28, R40, R44). -/
def PortLaw (s : State) : Prop :=
  ∀ m, ((s.port m).state = .resetting ∧ s.hasAccess m = true)
    ∨ (s.port m).state = if (s.port m).enable then .active else .disabled

/-- A Draining aperture does not meet the drain condition: the event that brought it about has closed it (R21). -/
def DrainLaw (s : State) : Prop := ∀ n, (s.aperture n).state = .draining → s.drained n = false

/-- The end frames of the region table are at most 16,777,216 (R57). -/
def RegionLaw (s : State) : Prop := ∀ i : RegionId, (s.regions[i]).endFrame.toNat ≤ Config.frames

/-- While RESET# is low every block holds its pin reset values (R26, R47, R137, R153). -/
def HeldLaw (s : State) : Prop := s.resetLow = true → hold s = s

/-- The records of the in-flight list that are walker reads of context `c`. -/
def State.walkRecords (s : State) (c : ContextId) : Nat :=
  s.inFlight.countP fun x => match x with
    | .walk d _ _ => d = c
    | .discarded | .read _ | .write _ => false

/-- The law of walker reads: a busy context has one read, pending or issued, and an issued read is one record of the
in-flight list (R72, R131). -/
structure WalkReadLaw (s : State) : Prop where
  busy : ∀ c w, s.context c = some w → w.read ≠ .none
  records : ∀ c, s.walkRecords c = if (s.context c).any (·.read = .issued) then 1 else 0

/-- What a Resetting port's master has left in the part: issued accesses and nothing else (R41, R97, R121). -/
def SweptLaw (s : State) : Prop :=
  ∀ m, (s.port m).state = .resetting →
    (∀ k ∈ s.park, k.master ≠ m) ∧ (s.queue m).reads = [] ∧ (∀ e ∈ (s.queue m).writes, e.isIssued = true)
      ∧ (s.port m).completions = []

/-! ## The law of the requests -/

/-- The tags of master `m`'s requests that are Taken and whose completion is not delivered, by where each stands: parked, on
the read issue list, an unposted write past its translation, a read in flight, a completion that waits (R36, R38). -/
def State.outstanding (s : State) (m : Master) : List Tag :=
  (s.park.filter (·.master = m)).map (·.tag)
    ++ (s.queue m).reads.map (·.tag)
    ++ ((s.queue m).writes.filter fun e => e.isItem && !e.posted).map (·.tag)
    ++ s.inFlight.filterMap (fun x => match x with
        | .read r => if r.master = m then some r.tag else none
        | .discarded | .walk _ _ _ | .write _ => none)
    ++ (s.port m).completions.map (·.tag)

/-- The tags and apertures of master `m`'s Write records, oldest first. -/
def State.writeRecords (s : State) (m : Master) : List (Tag × ApertureId) :=
  s.inFlight.filterMap fun x => match x with
    | .write r => if r.master = m then some (r.tag, r.aperture) else none
    | .discarded | .walk _ _ _ | .read _ => none

/-- The law of the tags, the queues and the slots. No slot number is busy twice (R90), and a Resetting port's master has only
issued work. Each outstanding request has a tag of its own, and it is InUse (R36, R38, R90, R107), with the kind of the request,
so that a completion matches its tag: one with data goes to a Read tag, an Okay without to a Write tag (R28); on a port that is
not Resetting every tag InUse is that of an outstanding request (R39). The Untranslated entries are those of the parked writes
(R88, R108); the Issued entries stand at the head, one for each Write record and in its order (R114, R119); and a write-order
queue holds at most 4 entries (R108). -/
structure RequestLaw (s : State) : Prop where
  slots : ParkLaw s
  swept : SweptLaw s
  distinct : ∀ m, (s.outstanding m).Nodup
  inUse : ∀ m, ∀ g ∈ s.outstanding m, ((s.port m).tag g).isSome = true
  parkedKinds : ∀ k ∈ s.park, (s.port k.master).tag k.tag = some k.kind
  readKinds : ∀ m, ∀ e ∈ (s.queue m).reads, (s.port m).tag e.tag = some .read
  writeKinds : ∀ m, ∀ e ∈ (s.queue m).writes, e.isItem = true → e.posted = false → (s.port m).tag e.tag = some .write
  flightKinds : ∀ r, .read r ∈ s.inFlight → (s.port r.master).tag r.tag = some .read
  completionKinds : ∀ m, ∀ c ∈ (s.port m).completions,
    (∀ beats, c.status = .okayRead beats → (s.port m).tag c.tag = some .read) ∧
    (c.status = .okayWrite → (s.port m).tag c.tag = some .write)
  settled : ∀ m g, (s.port m).state ≠ .resetting → ((s.port m).tag g).isSome = true → g ∈ s.outstanding m
  holes : ∀ m g n, (s.queue m).writes.countP (fun e => e.state = .untranslated ∧ e.tag = g ∧ e.aperture = n) =
    s.park.countP fun k => k.master = m ∧ k.kind = .write ∧ k.tag = g ∧ k.aperture = n
  front : ∀ m, ∀ e ∈ (s.queue m).writes.dropWhile (·.isIssued), e.isIssued = false
  issued : ∀ m, ((s.queue m).writes.filter (·.isIssued)).map (fun e => (e.tag, e.aperture)) = s.writeRecords m
  room : ∀ m, (s.queue m).writes.length ≤ Config.writeQueueEntries

/-- The requests of aperture `n` that are Taken and have not retired: parked reads, write-order entries in any state, read
issue entries, reads in flight (R24). -/
def State.unretired (s : State) (n : ApertureId) : Nat :=
  s.park.countP (fun k => k.kind = .read ∧ k.aperture = n)
    + (allMasters.map fun m => (s.queue m).writes.countP (·.aperture = n) + (s.queue m).reads.countP (·.aperture = n)).sum
    + s.inFlight.countP fun x => match x with
        | .read r => r.aperture = n
        | .discarded | .walk _ _ _ | .write _ => false

/-- The law of the in-flight counts: each is the number of its aperture's requests that have not retired (R24). -/
def CountLaw (s : State) : Prop := ∀ n, (s.aperture n).count = s.unretired n

/-- The configuration fields of a descriptor (R1), with its status fields as they are after reset. -/
def Aperture.config (a : Aperture) : Aperture := { a with state := .closed, lastResult := .none, count := 0 }

/-- The events that no host write and no reset pin brings about: those of the masters, of the memory bus, of the clock and of
the part's own engines. -/
def isPartEvent : Instr → Bool
  | .arrival _ _ | .acceptance _ | .grant | .memoryCompletion _ | .walkCompletion _ _ | .takeover _ | .tick
  | .expiry _ | .endOfDrain _ | .endOfPortReset _ | .invalidatePage | .invalidateRange | .invalidateDirectory
  | .invalidateAperture | .fence | .fenceCompletion => true
  | .openAperture _ | .closeAperture _ | .haltAperture _ | .resumeAperture _ | .badCommand _ _
  | .descriptorWrite _ _ _ | .portEnableWrite _ _ | .portReset _ _ | .globalEnable _ | .softReset | .causeClear _
  | .causeEnableWrite _ | .parkTimeoutWrite _ | .regionWrite _ _ | .stagingWrite _ _ | .push _ | .pop _
  | .narrowWrite _ _ _ | .hostWrite _ _ | .pinReset | .resetRelease _ _ => false

/-- The commands that clear causes or reset the part, whichever way they are spelled (R163, R164, R166, R167). -/
def clearsCauses : Instr → Bool
  | .causeClear _ | .softReset | .narrowWrite _ _ _ | .hostWrite _ _ | .pinReset | .resetRelease _ _ => true
  | .arrival _ _ | .acceptance _ | .grant | .memoryCompletion _ | .walkCompletion _ _ | .takeover _ | .tick
  | .expiry _ | .endOfDrain _ | .endOfPortReset _ | .invalidatePage | .invalidateRange | .invalidateDirectory
  | .invalidateAperture | .fence | .fenceCompletion | .openAperture _ | .closeAperture _ | .haltAperture _
  | .resumeAperture _ | .badCommand _ _ | .descriptorWrite _ _ _ | .portEnableWrite _ _ | .portReset _ _
  | .globalEnable _ | .causeEnableWrite _ | .parkTimeoutWrite _ | .regionWrite _ _ | .stagingWrite _ _ | .push _
  | .pop _ => false

/-- The values that the words of the window read after a reset under a latched strap, for the words whose value no earlier
state decides (R183). -/
structure ResetWords (pass : Bool) (s : State) : Prop where
  identification : s.readWord .identification = 0x4A261201
  configuration : s.readWord .configuration = if pass then 0x00201061 else 0x00201060
  globalControl : s.readWord .globalControl = if pass then 1 else 0
  cause : s.readWord .cause = 0
  parkTimeout : s.readWord .parkTimeout = 0
  programmingError : s.readWord .programmingError = 0
  region0 : s.readWord (.region 0) = 0x01000000
  regions : ∀ i, i ≠ 0 → s.readWord (.region i) = 0
  portControl : ∀ m, s.readWord (.portControl m) = 1
  staging : ∀ w, s.readWord (.staging w) = 0
  queueStatus : s.readWord .queueStatus = 0
  faultRecord : ∀ k, s.readWord (.faultRecord k) = 0
  logStatus : s.readWord .logStatus = 0
  descriptors : ∀ n w, n ≠ 0 → s.readWord (.descriptor n w) = 0
  statuses : ∀ n, n ≠ 0 → s.readWord (.status n) = 0
  base0 : s.readWord (.descriptor 0 .base) = 0
  tableAddress0 : s.readWord (.descriptor 0 .tableAddress) = 0
  attributes0 : s.readWord (.descriptor 0 .attributes) = if pass then 0x003F0028 else 0
  status0 : s.readWord (.status 0) = if pass then 0x00000011 else 0

/-- The commands that reset the part, whichever way they are spelled: a full write with SoftReset 1 is one (R26, R172,
R173). -/
def resetsPart : Instr → Bool
  | .softReset | .pinReset | .resetRelease _ _ => true
  | .hostWrite w v => w = 2 && v.getLsbD 1
  | .narrowWrite w lanes v => lanes = 15 && w = 2 && v.getLsbD 1
  | .arrival _ _ | .acceptance _ | .grant | .memoryCompletion _ | .walkCompletion _ _ | .takeover _ | .tick
  | .expiry _ | .openAperture _ | .closeAperture _ | .haltAperture _ | .resumeAperture _ | .badCommand _ _
  | .endOfDrain _ | .descriptorWrite _ _ _ | .portEnableWrite _ _ | .portReset _ _ | .endOfPortReset _
  | .globalEnable _ | .causeClear _ | .causeEnableWrite _ | .parkTimeoutWrite _ | .regionWrite _ _
  | .stagingWrite _ _ | .push _ | .invalidatePage | .invalidateRange | .invalidateDirectory | .invalidateAperture
  | .fence | .fenceCompletion | .pop _ => false

/-- The commands that can be a command to aperture `n`, whichever way they are spelled (R22, R181). -/
def commandsAperture (n : ApertureId) : Instr → Bool
  | .openAperture o | .closeAperture o | .haltAperture o | .resumeAperture o | .badCommand o _ => o = n
  | .hostWrite w _ | .narrowWrite w _ _ => w.toNat = 67 + 8 * n.val
  | .arrival _ _ | .acceptance _ | .grant | .memoryCompletion _ | .walkCompletion _ _ | .takeover _ | .tick
  | .expiry _ | .endOfDrain _ | .descriptorWrite _ _ _ | .portEnableWrite _ _ | .portReset _ _ | .endOfPortReset _
  | .globalEnable _ | .softReset | .causeClear _ | .causeEnableWrite _ | .parkTimeoutWrite _ | .regionWrite _ _
  | .stagingWrite _ _ | .push _ | .invalidatePage | .invalidateRange | .invalidateDirectory | .invalidateAperture
  | .fence | .fenceCompletion | .pop _ | .pinReset | .resetRelease _ _ => false

/-! ## Vocabulary of the statements about retirements -/

/-- The drain of aperture `n` ends as `k` of its requests retire, in an event that leaves the walk contexts as they are: it is
Draining, its count comes to 0, and no walk is busy for it (R19, R21). -/
def State.drainEnds (s : State) (n : ApertureId) (k : Nat) : Bool :=
  (s.aperture n).state = .draining && 0 < k && (s.aperture n).count ≤ k
    && ([0, 1] : List ContextId).all fun d => (s.context d).all (·.aperture ≠ n)

/-- The apertures and the caches after `k n` requests of each aperture `n` have retired: the counts have fallen, and the drains
that end have closed their apertures and removed their cache entries (R21, R24, R66). -/
structure Retired (k : ApertureId → Nat) (s t : State) : Prop where
  apertures : ∀ n, t.aperture n = { s.aperture n with
    count := (s.aperture n).count - k n
    state := if s.drainEnds n (k n) then .closed else (s.aperture n).state }
  pages : t.pageCache = s.pageCache.filter fun e => !s.drainEnds e.aperture (k e.aperture)
  dirs : t.dirCache = s.dirCache.filter fun e => !s.drainEnds e.aperture (k e.aperture)

/-- The causes `v` with ApertureClosed besides, if a drain ends as `k n` requests of each aperture retire (R21). -/
def State.retiredCauses (s : State) (k : ApertureId → Nat) (v : BitVec 10) : BitVec 10 :=
  if ∃ n, s.drainEnds n (k n) = true then v ||| 0x008 else v

/-! ## Vocabulary of the statements about the invalidation queue -/

/-- The row of the table that handles a command of a kind at the head of the queue (R144, R145). -/
def InvKind.row : InvKind → Instr
  | .page => .invalidatePage
  | .range => .invalidateRange
  | .directory => .invalidateDirectory
  | .aperture => .invalidateAperture
  | .fence => .fence

/-- What an event answers in which the queue has come to hold the commands of `u`, none of them handled: the first of them is
handled in the same event, by its own row, and with none left the event ends in `u` (R142, R148). -/
def HandledFrom (r : Result) (u : State) : Prop :=
  (u.invQueue = [] → r = .next u) ∧ ∀ q rest, u.invQueue = q :: rest → r = exec q.kind.row u

/-- `v` after its waiting fence `q` has completed, with the commands `rest` behind it: the token is written, the cause is set
if the fence asked for it, and the fence has left the queue (R148). -/
def State.fenceCompleted (v : State) (q : InvCommand) (rest : List InvCommand) : State :=
  { v with
    fenceToken := q.index, fenceCounter := 0, fenceWaiting := false, invQueue := rest
    causes := if q.interrupt then v.causes ||| 0x004 else v.causes }

/-! ## Vocabulary of the statements about arrivals -/

/-- A request whose form passes steps 1 to 4 (R31, R32). -/
def State.accepts (s : State) (m : Master) (r : Request) : Prop :=
  s.resetLow = false ∧ (s.port m).state = .active ∧ s.globalEnable = true ∧ (s.port m).tag r.tag = none ∧
  r.address.toNat % 8 = 0 ∧ 1 ≤ r.length ∧ r.address.toNat % 64 + 8 * r.length ≤ 64

/-- The state of a Taken arrival before its request is placed: the answer, the tag, the taken order, the in-flight count
(R24, R35, R36, R109). -/
def State.taken (s : State) (m : Master) (r : Request) (n : ApertureId) : State :=
  { s with
    trace := .answer m r.tag .taken :: s.trace
    ports := s.ports.set m
      { s.port m with tags := (s.port m).tags.set r.tag (some r.kind), taken := (s.port m).taken + 1 }
    apertures := s.apertures.set n { s.aperture n with count := (s.aperture n).count + 1 } }

/-- The arrival is Taken for the Open aperture `n`, with room for a write (R33, R34). -/
def State.admits (s : State) (m : Master) (r : Request) (n : ApertureId) : Prop :=
  s.accepts m r ∧ s.decode r.address = some n ∧ (s.aperture n).masterMask.getLsbD m.val = true ∧
  (s.aperture n).state = .opened ∧ (r.kind = .write → (s.queue m).writes.length < 4)

end Sys2Proof.Machine
end

