-- ==== Sys2Proof/Certificates/Slice0/Obligations.lean ====
section
/-! DEFINITION. The statements for the provers. Each names in its docstring the rules of spec/ it rests on; a clause that is
the model's own names its log entry. `t = { s with … }` is the frame: everything not listed is as it was. -/

open Sys2Proof Sys2Proof.Machine

/-! ## The step and the whole machine -/

/-- One step is the command at the front of the queue, run on the queue's rest; an empty queue idles (log 3). -/
def Obligations.StepRunsTheFrontCommand : Prop :=
  (∀ (c : Instr) (rest : List Instr) (s : State), step { s with pending := c :: rest } = exec c { s with pending := rest }) ∧
  (∀ s : State, s.pending = [] → step s = .next s)

/-- The only stops (logs 7, 8 and 15): a memory completion with no access in flight, a second request on a channel whose
request waits through RESET#, a request that is not 1 to 8 beats long, and a narrow write with no byte lane. Every other
command in every state answers a next state, in which the queue of commands is as it was. -/
def Obligations.OnlyProtocolBreachesStop : Prop :=
  ∀ (c : Instr) (s : State),
    (∃ t, exec c s = .next t ∧ t.pending = s.pending) ∨
    (∃ r, c = .memoryCompletion r ∧ s.resetLow = false ∧ s.inFlight = []
      ∧ exec c s = .fault .completionWithoutAccess) ∨
    (∃ m r, c = .arrival m r ∧ s.resetLow = true ∧ (s.port m).pendingArrival.isSome = true ∧ r.wellFormed = true
      ∧ exec c s = .fault .requestChannelBusy) ∨
    (∃ m r, c = .arrival m r ∧ r.wellFormed = false ∧ exec c s = .refused .requestLength) ∨
    (∃ w v, c = .narrowWrite w 0 v ∧ exec c s = .refused .noByteLanes)

/-- R163, R164: a cause that is set stays set under every command but those that clear causes or reset the part. -/
def Obligations.CausesStayUntilTheHostClearsThem : Prop :=
  ∀ (c : Instr) (s t : State), clearsCauses c = false → exec c s = .next t →
    ∀ i, s.causes.getLsbD i = true → t.causes.getLsbD i = true

/-- R6, R25: the configuration of an aperture that is not Closed stays in force under every command but a reset (a full
host write can be a soft reset, so the two host write rows are left out here). -/
def Obligations.ConfigurationStaysWhileNotClosed : Prop :=
  ∀ (c : Instr) (s t : State) (n : ApertureId),
    (∀ w v, c ≠ .hostWrite w v) → (∀ w l v, c ≠ .narrowWrite w l v) → c ≠ .softReset → c ≠ .pinReset →
    (∀ p o, c ≠ .resetRelease p o) →
    exec c s = .next t → (s.aperture n).state ≠ .closed → (t.aperture n).config = (s.aperture n).config

/-- The events of the masters, the memory bus, the clock and the part's own engines leave what the host and the pins own:
enables, regions, park timeout, staging words, global Enable, programming-error record, strap, RESET# (R57, R93, R139,
R165, R172, R177), and every descriptor's configuration (R25). -/
def Obligations.PartEventsLeaveWhatTheHostOwns : Prop :=
  ∀ (c : Instr) (s t : State), isPartEvent c = true → exec c s = .next t →
    t.enables = s.enables ∧ t.regions = s.regions ∧ t.parkTimeout = s.parkTimeout ∧ t.staging = s.staging ∧
    t.globalEnable = s.globalEnable ∧ t.progError = s.progError ∧ t.passLatched = s.passLatched ∧
    t.resetLow = s.resetLow ∧ ∀ n, (t.aperture n).config = (s.aperture n).config

/-- Every law holds right after reset. -/
def Obligations.LawsHoldAtReset : Prop :=
  PageCacheLaw State.reset ∧ DirCacheLaw State.reset ∧ ClosedLaw State.reset ∧ ApertureLaw State.reset ∧
  WalkLaw State.reset ∧ ReadyLaw State.reset ∧ WalkReadLaw State.reset ∧ ParkLaw State.reset ∧ SweptLaw State.reset ∧
  InFlightLaw State.reset ∧ LogLaw State.reset ∧ FenceLaw State.reset ∧ PortLaw State.reset ∧ DrainLaw State.reset ∧
  RegionLaw State.reset ∧ HeldLaw State.reset ∧ RequestLaw State.reset ∧ CountLaw State.reset

/-! ## Laws that every step keeps -/

/-- R48, R54: at most 32 page cache entries, one per key, 8 of them pinned, and at most 8 directory cache entries, one per key.
R66: neither cache comes to hold an entry for an aperture that is Closed. -/
def Obligations.CachesKeepTheirLaws : Prop :=
  ∀ s t : State, step s = .next t →
    (PageCacheLaw s → PageCacheLaw t) ∧ (DirCacheLaw s → DirCacheLaw t) ∧ (ClosedLaw s → ClosedLaw t)

/-- R2, R15: apertures that are not Closed stay legal and never overlap. -/
def Obligations.ApertureRangesStayApart : Prop :=
  ∀ s t : State, ApertureLaw s → step s = .next t → ApertureLaw t

/-- R69, R92: never two walks for one key, no Queued slot for a key being walked, no Idle context while a slot is Queued. -/
def Obligations.WalksStayDistinctAndContextsTaken : Prop :=
  ∀ s t : State, WalkLaw s → step s = .next t → WalkLaw t

/-- R72, R126, R131: a busy context always has its one read pending or issued, an issued one is exactly one record in
flight, and two pending reads have different ready times. -/
def Obligations.WalkerReadsStayAccountedFor : Prop :=
  ∀ s t : State, step s = .next t → (WalkReadLaw s → WalkReadLaw t) ∧ (ReadyLaw s → ReadyLaw t)

/-- R88, R90: no slot number is busy twice, so at most 16 slots are. R125, R136: never more than 8 accesses in flight, those
marked for discard included and oldest. R157: at most 8 fault records, each with a repeat count from 1 to 255. R36, R38, R39,
R90, R107, R108: the law of the requests. Under it every busy slot and every waiting completion names a tag InUse, no two slots
of a master name one tag, a tag has at most one completion, and a master has at most 4 completions, 4 read issue entries and 4
write-order entries; and a completion with data is of a tag that holds a Read (R28). -/
def Obligations.SlotsAccessesAndRecordsStayBounded : Prop :=
  (∀ s t : State, step s = .next t →
    (ParkLaw s → ParkLaw t ∧ t.park.length ≤ 16) ∧ (InFlightLaw s → InFlightLaw t) ∧ (LogLaw s → LogLaw t) ∧
    (RequestLaw s → RequestLaw t)) ∧
  ∀ s : State, RequestLaw s →
    (∀ k ∈ s.park, ((s.port k.master).tag k.tag).isSome = true) ∧
    s.park.Pairwise (fun a b => ¬ (a.master = b.master ∧ a.tag = b.tag)) ∧
    ∀ m, (∀ c ∈ (s.port m).completions, ((s.port m).tag c.tag).isSome = true ∧
        ∀ beats, c.status = .okayRead beats → (s.port m).tag c.tag = some .read) ∧
      (s.port m).completions.Pairwise (fun a b => a.tag ≠ b.tag) ∧
      (s.port m).completions.length ≤ 4 ∧ (s.queue m).reads.length ≤ 4 ∧ (s.queue m).writes.length ≤ 4

/-- R41, R97, R121: a Resetting port's master has only issued accesses left in the part. -/
def Obligations.ResettingPortsHoldOnlyIssuedWork : Prop :=
  ∀ s t : State, SweptLaw s → step s = .next t → SweptLaw t

/-- R138, R142, R145 to R148: the fence counter is the number of marked items still in the part, and a fence waits exactly
while it is above 0. -/
def Obligations.FenceCounterCountsTheMarkedItems : Prop :=
  ∀ s t : State, FenceLaw s → step s = .next t → FenceLaw t

/-- R28, R40, R44: a port is Active or Disabled by its enable, or Resetting while an issued access of it remains. -/
def Obligations.PortStatesFollowEnableOrReset : Prop :=
  ∀ s t : State, PortLaw s → step s = .next t → PortLaw t

/-- R21: no step leaves a Draining aperture that meets the drain condition, and no step but a reset takes a Draining aperture
anywhere but to Closed. It reaches Closed with a count of 0, and, while no slot of it is Queued (R70), with no busy walk; its
cache entries are removed and ApertureClosed is set. The end of the drain leaves the last result; only a command to the aperture
that is refused sets it, to BadState (R22). R24: every step keeps each in-flight count at the number of its aperture's requests
that have not retired: parked reads, write-order entries, read issue entries, reads in flight; under the law of the requests
(kept by SlotsAccessesAndRecordsStayBounded) it is at most 48. -/
def Obligations.DrainsEndInTheEventThatAllowsThem : Prop :=
  (∀ s t : State, step s = .next t → (DrainLaw s → DrainLaw t) ∧ (RequestLaw s → CountLaw s → CountLaw t)) ∧
  (∀ (c : Instr) (s t : State) (n : ApertureId), resetsPart c = false → exec c s = .next t →
    (s.aperture n).state = .draining →
    ((t.aperture n).state = .draining ∨
      (t.aperture n).state = .closed ∧ (t.aperture n).count = 0 ∧ t.causes.getLsbD 3 = true ∧
      (∀ e ∈ t.pageCache, e.aperture ≠ n) ∧ (∀ e ∈ t.dirCache, e.aperture ≠ n) ∧
      ((∀ k ∈ s.park, k.placement = .queued → k.aperture ≠ n) → t.drained n = true)) ∧
    ((t.aperture n).lastResult = (s.aperture n).lastResult ∨
      (t.aperture n).lastResult = .badState ∧ (t.aperture n).state = .draining ∧ t.causes.getLsbD 7 = true ∧
      commandsAperture n c = true)) ∧
  ∀ s : State, RequestLaw s → CountLaw s → ∀ n, (s.aperture n).count ≤ 48

/-- R26, R47, R137, R153, R57: while RESET# is low every block holds its pin reset values; region ends stay in range. -/
def Obligations.ResetValuesHoldWhileResetIsLow : Prop :=
  ∀ s t : State, step s = .next t → (HeldLaw s → HeldLaw t) ∧ (RegionLaw s → RegionLaw t)

/-! ## Aperture unit -/

/-- R17, R18: Halt takes an Open aperture to Halted and sets ApertureHalted; Resume takes a Halted one back. -/
def Obligations.HaltAndResumeMoveTheAperture : Prop :=
  ∀ (n : ApertureId) (s : State), s.resetLow = false →
    ((s.aperture n).state = .opened → ∃ t, exec (.haltAperture n) s = .next t ∧
      (∀ o, t.aperture o =
        if o = n then { s.aperture n with state := .halted, lastResult := .halted } else s.aperture o) ∧
      t = { s with apertures := t.apertures, causes := s.causes ||| 0x010 }) ∧
    ((s.aperture n).state = .halted → ∃ t, exec (.resumeAperture n) s = .next t ∧
      (∀ o, t.aperture o =
        if o = n then { s.aperture n with state := .opened, lastResult := .resumed } else s.aperture o) ∧
      t = { s with apertures := t.apertures })

/-- R22: a command that the state does not allow leaves the state, sets BadState and ProgrammingError, and does nothing
else. -/
def Obligations.ForbiddenCommandsAreRefusedWithBadState : Prop :=
  ∀ (c : Instr) (n : ApertureId) (s : State), s.resetLow = false →
    (c = .openAperture n ∧ (s.aperture n).state ≠ .closed) ∨
    (c = .closeAperture n ∧ (s.aperture n).state ≠ .opened ∧ (s.aperture n).state ≠ .halted) ∨
    (c = .haltAperture n ∧ (s.aperture n).state ≠ .opened) ∨
    (c = .resumeAperture n ∧ (s.aperture n).state ≠ .halted) →
    ∃ t, exec c s = .next t ∧
      (∀ o, t.aperture o = if o = n then { s.aperture n with lastResult := .badState } else s.aperture o) ∧
      t = { s with apertures := t.apertures, causes := s.causes ||| 0x080 }

/-- R14, R15, R16: an Open of a Closed aperture makes six checks in order; the first that fails names the result and sets
ProgrammingError, and with none the aperture is Open. The overlap is stated as a shared master address. -/
def Obligations.OpenValidatesTheDescriptorInOrder : Prop :=
  ∀ (n : ApertureId) (s : State), s.resetLow = false → (s.aperture n).state = .closed →
    ∃ t r, exec (.openAperture n) s = .next t ∧
      (let a := s.aperture n
       let bytes := 2 ^ a.sizeCode.toNat * 2 ^ 20
       let shared := ∃ o x, o ≠ n ∧ (s.aperture o).state ≠ .closed ∧
         a.base.toNat ≤ x ∧ x < a.base.toNat + bytes ∧
         (s.aperture o).base.toNat ≤ x ∧ x < (s.aperture o).base.toNat + 2 ^ (s.aperture o).sizeCode.toNat * 2 ^ 20
       if 9 ≤ a.sizeCode.toNat then r = .badSize
       else if ¬ bytes ∣ a.base.toNat then r = .baseMisaligned
       else if a.mode = .walked ∧ ¬ 16 ∣ a.tableAddress.toNat then r = .tableMisaligned
       else if a.mode = .linear ∧ a.pageSize = .k64 ∧ ¬ 16 ∣ a.tableAddress.toNat % 2 ^ 24 then r = .frameMisaligned
       else if a.masterMask = 0 then r = .noMasters
       else (shared → r = .overlap) ∧ (¬ shared → r = .opened)) ∧
      (∀ o, t.aperture o =
        if o = n then
          { s.aperture n with state := if r = .opened then .opened else .closed, lastResult := r }
        else s.aperture o) ∧
      t = { s with apertures := t.apertures, causes := if r = .opened then s.causes else s.causes ||| 0x080 }

/-- R19, R21, R66: END_OF_DRAIN does nothing for an aperture that is not Draining or does not meet the drain condition (log 2).
An aperture with an in-flight count of 0 and no busy walk context closes: at a Close taken in Open or Halted, which sets the
last result to Closed, and at the end of a drain, which leaves the last result. Its cache entries, pinned ones included, are
removed and ApertureClosed is set. -/
def Obligations.ClosingRemovesTheCacheEntries : Prop :=
  (∀ (n : ApertureId) (s : State),
    (s.aperture n).state ≠ .draining ∨ (s.aperture n).count ≠ 0 ∨ (∃ d w, s.context d = some w ∧ w.aperture = n) →
    exec (.endOfDrain n) s = .next s) ∧
  ∀ (c : Instr) (n : ApertureId) (s : State) (r : LastResult), s.resetLow = false → (s.aperture n).count = 0 →
    (∀ d w, s.context d = some w → w.aperture ≠ n) →
    (c = .closeAperture n ∧ ((s.aperture n).state = .opened ∨ (s.aperture n).state = .halted) ∧ r = .closed ∨
      c = .endOfDrain n ∧ (s.aperture n).state = .draining ∧ r = (s.aperture n).lastResult) →
    ∃ t, exec c s = .next t ∧
      (∀ o, t.aperture o = if o = n then { s.aperture n with state := .closed, lastResult := r } else s.aperture o) ∧
      t = { s with
        apertures := t.apertures
        pageCache := s.pageCache.filter (·.aperture ≠ n)
        dirCache := s.dirCache.filter (·.aperture ≠ n)
        causes := s.causes ||| 0x008 }

/-- R19, R20, R103: a Close under traffic aborts every parked slot of the aperture, oldest first; a port that is not Resetting
gets one Aborted completion for each. An aborted write's Untranslated entry leaves its master's write-order queue; the other
Untranslated entries, the reads, the Translated and Issued writes, walks, accesses in flight, the log and the invalidation queue
carry on; the aperture is left Draining, or Closed where the aborts brought the drain condition about. -/
def Obligations.CloseUnderTrafficAbortsTheParked : Prop :=
  ∀ (n : ApertureId) (s : State), s.resetLow = false →
    ((s.aperture n).state = .opened ∨ (s.aperture n).state = .halted) → s.drained n = false → ParkLaw s →
    ∃ t, exec (.closeAperture n) s = .next t ∧
      (t.aperture n).lastResult = .closed ∧
      ((t.aperture n).state = .draining ∧ t.drained n = false ∧ t.causes = s.causes ∧
          t.pageCache = s.pageCache ∧ t.dirCache = s.dirCache ∨
        (t.aperture n).state = .closed ∧ t.drained n = true ∧ t.causes = s.causes ||| 0x008 ∧
          t.pageCache = s.pageCache.filter (·.aperture ≠ n) ∧ t.dirCache = s.dirCache.filter (·.aperture ≠ n)) ∧
      (t.aperture n).count = (s.aperture n).count - s.park.countP (·.aperture = n) ∧
      (∀ o, o ≠ n → t.aperture o = s.aperture o) ∧
      t.park = s.park.filter (·.aperture ≠ n) ∧
      (∀ m, (s.port m).state ≠ .resetting → t.port m = { s.port m with
        completions := (s.port m).completions ++
          (s.park.filter (fun k => k.aperture = n ∧ k.master = m)).map (fun k => ⟨k.tag, .aborted⟩) }) ∧
      (∀ m, (s.port m).state = .resetting → t.port m = s.port m) ∧
      (∀ m, (t.queue m).reads = (s.queue m).reads ∧
        (t.queue m).writes =
          (s.park.filter (fun k => k.aperture = n ∧ k.master = m ∧ k.kind = .write)).foldl
            (fun l k => l.eraseP (fun e => e.state = .untranslated ∧ e.tag = k.tag)) (s.queue m).writes ∧
        (RequestLaw s → (t.queue m).writes =
          (s.queue m).writes.filter (fun e => ¬ (e.state = .untranslated ∧ e.aperture = n)))) ∧
      t = { s with
        apertures := t.apertures, ports := t.ports, queues := t.queues, park := t.park
        pageCache := t.pageCache, dirCache := t.dirCache, causes := t.causes }

/-- R25: a descriptor write is stored while the aperture is Closed (the attributes word reads back bits 21 to 16 and 8 to 0);
otherwise it is discarded with DescriptorBusy at the offset of the word. -/
def Obligations.DescriptorWritesStoreOnlyWhileClosed : Prop :=
  ∀ (n : ApertureId) (w : DescriptorWord) (v : Word) (s : State), s.resetLow = false →
    ∃ t, exec (.descriptorWrite n w v) s = .next t ∧
      ((s.aperture n).state = .closed →
        t.readWord (.descriptor n w) = (if w = .attributes then v &&& 0x003F01FF else v) ∧
        (∀ x, x ≠ w → t.readWord (.descriptor n x) = s.readWord (.descriptor n x)) ∧
        (t.aperture n).state = .closed ∧ (t.aperture n).lastResult = (s.aperture n).lastResult ∧
        (t.aperture n).count = (s.aperture n).count ∧
        (∀ o, o ≠ n → t.aperture o = s.aperture o) ∧ t = { s with apertures := t.apertures }) ∧
      ((s.aperture n).state ≠ .closed →
        t = { s with
          causes := s.causes ||| 0x080
          progError := ⟨.descriptorBusy, BitVec.ofNat 12
            (0x100 + 0x20 * n.val + (match w with | .base => 0 | .attributes => 4 | .tableAddress => 8))⟩ })

/-! ## Checks -/

/-- R61: the access check. R62: the region check. -/
def Obligations.AccessAndRegionChecks : Prop :=
  ((∀ k, permits .noAccess k = false) ∧ (permits .read .read = true ∧ permits .read .write = false) ∧
    (permits .write .read = false ∧ permits .write .write = true) ∧ (∀ k, permits .readWrite k = true) ∧
    (permits (LinearAccess.rights .readOnly) .read = true ∧ permits (LinearAccess.rights .readOnly) .write = false) ∧
    (∀ k, permits (LinearAccess.rights .readWrite) k = true)) ∧
  ∀ (s : State) (frame : Nat) (kind : AccessKind) (rights : MapAccess),
    (permits rights kind = false → s.check kind rights frame = some .accessDenied) ∧
    (permits rights kind = true →
      ((s.classify frame = .uncovered ∨ s.classify frame = .absent) →
        s.check kind rights frame = some .outOfRange) ∧
      (s.classify frame = .readOnly → kind = .write → s.check kind rights frame = some .regionReadOnly) ∧
      (s.classify frame = .readOnly → kind = .read → s.check kind rights frame = none) ∧
      (s.classify frame = .normal → s.check kind rights frame = none))

/-- R58: a frame's region is the lowest-numbered one whose end frame is above it, and the frame has that region's outcome; with
no such region it is uncovered. It is out of range when uncovered or Absent. With end frames of at most 16,777,216 (RegionLaw)
every frame from there on is uncovered. -/
def Obligations.RegionTableClassifiesByTheLowestEnd : Prop :=
  ∀ (s : State) (f : Nat),
    (∀ i : RegionId, f < (s.regions[i]).endFrame.toNat → (∀ j : RegionId, j < i → (s.regions[j]).endFrame.toNat ≤ f) →
      s.classify f = (match (s.regions[i]).attr with
        | .normal => .normal
        | .readOnly => .readOnly
        | .absent => .absent)) ∧
    ((∀ i : RegionId, (s.regions[i]).endFrame.toNat ≤ f) → s.classify f = .uncovered) ∧
    (s.outOfRange f = true ↔ s.classify f = .uncovered ∨ s.classify f = .absent) ∧
    (RegionLaw s → 16777216 ≤ f → s.classify f = .uncovered)

/-! ## Master ports -/

/-- R30: an arrival with RESET# high gets exactly one answer, and nothing else goes out on any channel in its event. -/
def Obligations.EveryArrivalGetsOneAnswer : Prop :=
  ∀ (m : Master) (r : Request) (s t : State), s.resetLow = false → exec (.arrival m r) s = .next t →
    ∃ a, t.trace = .answer m r.tag a :: s.trace

/-- R31, R32: steps 1 to 4 of the arrival checks, in order. The refusals of step 1 leave everything else; the others log a
ProtocolError with the aperture the address decodes to. -/
def Obligations.MalformedArrivalsAreRefusedInOrder : Prop :=
  ∀ (m : Master) (r : Request) (s : State), s.resetLow = false → 1 ≤ r.length → r.length ≤ 8 →
    let refused (why : RefuseReason) : State := { s with trace := .answer m r.tag (.refuse why) :: s.trace }
    let logged (why : RefuseReason) : State :=
      report ⟨.protocolError, m, r.tag, s.decode r.address, r.kind, r.address, none, 1⟩ (refused why)
    let a := r.address.toNat
    ((s.port m).state = .resetting → exec (.arrival m r) s = .next (refused .portResetting)) ∧
    ((s.port m).state ≠ .resetting → (s.globalEnable = false ∨ (s.port m).state = .disabled) →
      exec (.arrival m r) s = .next (refused .disabled)) ∧
    ((s.port m).state = .active → s.globalEnable = true → ((s.port m).tag r.tag).isSome = true →
      exec (.arrival m r) s = .next (logged .tagInUse)) ∧
    ((s.port m).state = .active → s.globalEnable = true → (s.port m).tag r.tag = none → a % 8 ≠ 0 →
      exec (.arrival m r) s = .next (logged .misaligned)) ∧
    ((s.port m).state = .active → s.globalEnable = true → (s.port m).tag r.tag = none → a % 8 = 0 →
      64 < a % 64 + 8 * r.length → exec (.arrival m r) s = .next (logged .lineCross))

/-- R7: the decode of a master address: under the law of the apertures it gives aperture n exactly where n is not Closed and the
address is from its base to base + size - 1, and no aperture where there is none. R33, R34: steps 5 to 9. No aperture and a
master outside the mask are logged; a Draining and a Halted aperture are not; a full write-order queue, and a miss with no Free
park slot, answer Retry and change nothing else. -/
def Obligations.ApertureAndResourceChecksFollowInOrder : Prop :=
  (∀ (s : State) (x : Word),
    let matched (n : ApertureId) : Prop := (s.aperture n).state ≠ .closed ∧ (s.aperture n).base.toNat ≤ x.toNat ∧
      x.toNat ≤ (s.aperture n).base.toNat + 2 ^ (s.aperture n).sizeCode.toNat * 2 ^ 20 - 1
    (ApertureLaw s → ∀ n, s.decode x = some n ↔ matched n) ∧ (s.decode x = none ↔ ∀ n, ¬ matched n)) ∧
  ∀ (m : Master) (r : Request) (s : State), s.accepts m r →
    let answered (a : Answer) : State := { s with trace := .answer m r.tag a :: s.trace }
    (s.decode r.address = none → exec (.arrival m r) s =
      .next (report ⟨.noAperture, m, r.tag, none, r.kind, r.address, none, 1⟩ (answered (.refuse .noAperture)))) ∧
    (∀ n, s.decode r.address = some n →
      let a := s.aperture n
      (a.masterMask.getLsbD m.val = false → exec (.arrival m r) s =
        .next (report ⟨.notPermitted, m, r.tag, some n, r.kind, r.address, none, 1⟩
          (answered (.refuse .notPermitted)))) ∧
      (a.masterMask.getLsbD m.val = true → a.state = .draining →
        exec (.arrival m r) s = .next (answered (.refuse .apertureClosing))) ∧
      (a.masterMask.getLsbD m.val = true → a.state = .halted →
        exec (.arrival m r) s = .next (answered (.refuse .apertureHalted))) ∧
      (a.masterMask.getLsbD m.val = true → a.state = .opened → r.kind = .write → 4 ≤ (s.queue m).writes.length →
        exec (.arrival m r) s = .next (answered .retry)) ∧
      (a.masterMask.getLsbD m.val = true → a.state = .opened → (r.kind = .read ∨ (s.queue m).writes.length < 4) →
        a.mode = .walked → (∀ e ∈ s.pageCache, ¬ (e.aperture = n ∧ e.page = a.pageIndex r.address)) →
        (∀ k : SlotId, ∃ x ∈ s.park, x.num = k) → exec (.arrival m r) s = .next (answered .retry)))

/-- R10, R35, R110, R111, R118: a request to a Linear aperture that passes its checks is Taken and joins its master's read
issue list or, Translated, its write-order queue; where the aperture posts, the write's Okay is given at once. -/
def Obligations.LinearRequestsAreTakenAndQueued : Prop :=
  ∀ (m : Master) (r : Request) (n : ApertureId) (s : State), s.admits m r n → (s.aperture n).mode = .linear →
    let a := s.aperture n
    let p := a.tableAddress.toNat % 2 ^ 24 * 4096 + (r.address.toNat - a.base.toNat)
    (r.kind = .write → a.linearAccess = .readWrite) →
    (s.classify (p / 4096) = .normal ∨ s.classify (p / 4096) = .readOnly ∧ r.kind = .read) →
    (∀ beats, r.body = .read beats → exec (.arrival m r) s = .next
      { s.taken m r n with
        queues := s.queues.set m { s.queue m with
          reads := (s.queue m).reads ++
            [⟨r.tag, (s.port m).taken, r.address, BitVec.ofNat 36 p, beats, n, false⟩] } }) ∧
    (∀ beats, r.body = .write beats → ∃ t, exec (.arrival m r) s = .next t ∧
      t = { s.taken m r n with
        ports := t.ports
        queues := s.queues.set m { s.queue m with writes := (s.queue m).writes ++
          [⟨r.tag, (s.port m).taken, r.address, beats, n, .translated (BitVec.ofNat 36 p), a.posting, false⟩] } } ∧
      (∀ o, t.port o = if o = m then
          { (s.taken m r n).port m with completions :=
              (s.port m).completions ++ (if a.posting then [⟨r.tag, .okayWrite⟩] else []) }
        else s.port o))

/-- R35, R60 to R62, R23, R154: a request to a Linear aperture that fails a check is Taken, receives its Fault at once and
leaves nothing in any queue; its aperture's count is as before, and with halt on fault the aperture is Halted. The fault is
logged, an OutOfRange or RegionReadOnly one with its access frame; which frame is logged for an access frame from 16,777,216 on
is open (log 6). -/
def Obligations.LinearRequestsThatFailReceiveTheirFault : Prop :=
  ∀ (m : Master) (r : Request) (n : ApertureId) (s : State), s.admits m r n → (s.aperture n).mode = .linear →
    let a := s.aperture n
    let f := (a.tableAddress.toNat % 2 ^ 24 * 4096 + (r.address.toNat - a.base.toNat)) / 4096
    ∀ k, (if r.kind = .write ∧ a.linearAccess = .readOnly then k = .accessDenied
      else if s.classify f = .uncovered ∨ s.classify f = .absent then k = .outOfRange
      else s.classify f = .readOnly ∧ r.kind = .write ∧ k = .regionReadOnly) →
    ∃ t, exec (.arrival m r) s = .next t ∧
      (∀ o, t.port o = if o = m then
          { (s.taken m r n).port m with completions := (s.port m).completions ++ [⟨r.tag, .fault k⟩] } else s.port o) ∧
      (t.port m).tag r.tag = some r.kind ∧
      (∀ o, t.aperture o = if o = n then { a with state := if a.haltOnFault then .halted else .opened }
        else s.aperture o) ∧
      (∃ x : Frame, (f < 16777216 → x.toNat = f) ∧
        let u := report ⟨.translation k, m, r.tag, some n, r.kind, r.address,
          if k = .accessDenied then none else some x, 1⟩ s
        t.log = u.log ∧ t.overflow = u.overflow ∧
        t.causes = if a.haltOnFault then u.causes ||| 0x010 else u.causes) ∧
      t = { s with
        trace := .answer m r.tag .taken :: s.trace
        ports := t.ports, apertures := t.apertures, log := t.log, overflow := t.overflow, causes := t.causes
        freeCount := t.freeCount }

/-- R9, R35, R49, R50, R64: a request that hits the page cache is Taken, and the entry moves to the most recent position,
otherwise as it was. Passing its checks, a read joins its master's read issue list and a write, Translated, its write-order
queue, with its own physical address and, where the aperture posts, its Okay at once (R110, R111, R118). Failing them it
receives its Fault at once, logged with its access frame where the kind carries one, and leaves nothing in any queue; its
aperture's count is as before, and with halt on fault the aperture is Halted (R23, R60 to R62, R154; the frame logged for an
access frame from 16,777,216 on is open, log 6). -/
def Obligations.CacheHitsAreServedAtTheArrival : Prop :=
  ∀ (m : Master) (r : Request) (n : ApertureId) (s : State) (e : PageEntry), PageCacheLaw s →
    s.admits m r n → (s.aperture n).mode = .walked → e ∈ s.pageCache → e.aperture = n →
    e.page = (r.address.toNat - (s.aperture n).base.toNat) / (s.aperture n).pageSize.bytes →
    let a := s.aperture n
    let p := e.frame.toNat * 4096 + (r.address.toNat - a.base.toNat) % a.pageSize.bytes
    let hit : State := { s.taken m r n with pageCache := s.pageCache.erase e ++ [e] }
    let permitted : Prop := e.access = .readWrite ∨ e.access = .read ∧ r.kind = .read ∨ e.access = .write ∧ r.kind = .write
    (permitted → (s.classify (p / 4096) = .normal ∨ s.classify (p / 4096) = .readOnly ∧ r.kind = .read) →
      (∀ beats, r.body = .read beats → exec (.arrival m r) s = .next
        { hit with queues := s.queues.set m { s.queue m with reads := (s.queue m).reads ++
            [⟨r.tag, (s.port m).taken, r.address, BitVec.ofNat 36 p, beats, n, false⟩] } }) ∧
      (∀ beats, r.body = .write beats → ∃ t, exec (.arrival m r) s = .next t ∧
        t = { hit with
          ports := t.ports
          queues := s.queues.set m { s.queue m with writes := (s.queue m).writes ++
            [⟨r.tag, (s.port m).taken, r.address, beats, n, .translated (BitVec.ofNat 36 p), a.posting, false⟩] } } ∧
        (∀ o, t.port o = if o = m then
            { hit.port m with completions :=
                (s.port m).completions ++ (if a.posting then [⟨r.tag, .okayWrite⟩] else []) }
          else s.port o))) ∧
    (∀ k, (¬ permitted ∧ k = .accessDenied ∨
        permitted ∧ (s.classify (p / 4096) = .uncovered ∨ s.classify (p / 4096) = .absent) ∧ k = .outOfRange ∨
        permitted ∧ s.classify (p / 4096) = .readOnly ∧ r.kind = .write ∧ k = .regionReadOnly) →
      ∃ t, exec (.arrival m r) s = .next t ∧
        (∀ o, t.port o = if o = m then
            { hit.port m with completions := (s.port m).completions ++ [⟨r.tag, .fault k⟩] } else s.port o) ∧
        (∀ o, t.aperture o = if o = n then { a with state := if a.haltOnFault then .halted else .opened }
          else s.aperture o) ∧
        (∃ x : Frame, (p / 4096 < 16777216 → x.toNat = p / 4096) ∧
          let u := report ⟨.translation k, m, r.tag, some n, r.kind, r.address,
            if k = .accessDenied then none else some x, 1⟩ s
          t.log = u.log ∧ t.overflow = u.overflow ∧
          t.causes = if a.haltOnFault then u.causes ||| 0x010 else u.causes) ∧
        t = { hit with
          ports := t.ports, apertures := t.apertures, log := t.log, overflow := t.overflow, causes := t.causes
          freeCount := t.freeCount })

/-- R69, R91, R111: a miss takes the lowest-numbered Free slot with the park timeout as its limit; it joins the walk for its
key, or, with both contexts busy on other keys, is Queued. A write leaves an Untranslated entry. -/
def Obligations.MissesParkInTheLowestFreeSlot : Prop :=
  ∀ (m : Master) (r : Request) (n : ApertureId) (s : State) (k : SlotId) (place : Placement), s.admits m r n →
    (s.aperture n).mode = .walked →
    let page := (r.address.toNat - (s.aperture n).base.toNat) / (s.aperture n).pageSize.bytes
    (∀ e ∈ s.pageCache, ¬ (e.aperture = n ∧ e.page = page)) →
    (∀ x ∈ s.park, x.num ≠ k) → (∀ j : SlotId, j < k → ∃ x ∈ s.park, x.num = j) →
    ((∃ c w, place = .waiting c ∧ s.context c = some w ∧ w.aperture = n ∧ w.page = page ∧
        ∀ d v, s.context d = some v → v.aperture = n → v.page = page → d = c) ∨
      (place = .queued ∧ ∀ c, ∃ w, s.context c = some w ∧ ¬ (w.aperture = n ∧ w.page = page))) →
    exec (.arrival m r) s = .next
      { s.taken m r n with
        park := s.park ++
          [⟨k, m, r.tag, r.kind, n, page, r.address, r.length, (s.port m).taken, place, s.parkTimeout, 0⟩]
        queues := match r.body with
          | .read _ => s.queues
          | .write beats => s.queues.set m { s.queue m with writes := (s.queue m).writes ++
              [⟨r.tag, (s.port m).taken, r.address, beats, n, .untranslated, false, false⟩] } }

/-- R35, R55, R69, R71, R72, R74, R91, R111: a miss, read or write, that finds no walk for its key and an Idle context starts a
walk there, context 0 first, with its slot as the waiter; a write leaves an Untranslated entry. With no directory cache entry
and the directory frame in range its directory read becomes pending; with one, which moves to the most recent position, and its
block frame in range, its map read does. R63: with the frame that the table read needs out of range the walk completes in the
same event with TableOutOfRange for that frame. -/
def Obligations.MissesStartAWalkInAnIdleContext : Prop :=
  ∀ (m : Master) (r : Request) (n : ApertureId) (s : State) (k : SlotId) (c : ContextId), s.admits m r n →
    (s.aperture n).mode = .walked →
    let page := (r.address.toNat - (s.aperture n).base.toNat) / (s.aperture n).pageSize.bytes
    (∀ e ∈ s.pageCache, ¬ (e.aperture = n ∧ e.page = page)) →
    (∀ x ∈ s.park, x.num ≠ k) → (∀ j : SlotId, j < k → ∃ x ∈ s.park, x.num = j) →
    s.context c = none → (∀ d w, s.context d = some w → ¬ (w.aperture = n ∧ w.page = page)) →
    (c = 1 → s.context 0 ≠ none) →
    let walking (w : Walk) : State :=
      { s.taken m r n with
        park := s.park ++
          [⟨k, m, r.tag, r.kind, n, page, r.address, r.length, (s.port m).taken, .waiting c, s.parkTimeout, 0⟩]
        queues := match r.body with
          | .read _ => s.queues
          | .write beats => s.queues.set m { s.queue m with writes := (s.queue m).writes ++
              [⟨r.tag, (s.port m).taken, r.address, beats, n, .untranslated, false, false⟩] }
        contexts := s.contexts.set c (some w) }
    let inRange (f : Frame) : Prop := s.classify f.toNat = .normal ∨ s.classify f.toNat = .readOnly
    ((∀ e ∈ s.dirCache, ¬ (e.aperture = n ∧ e.index = page / 1024)) →
      let f : Frame := BitVec.ofNat 24 ((s.aperture n).tableAddress.toNat / 256)
      (inRange f → exec (.arrival m r) s = .next
        { walking ⟨.directoryRead, n, page, .pending s.readySeq, false, false⟩ with readySeq := s.readySeq + 1 }) ∧
      (¬ inRange f → exec (.arrival m r) s =
        exec (.walkCompletion c (.fault (.tableOutOfRange f))) (walking ⟨.directoryRead, n, page, .none, false, false⟩))) ∧
    (∀ e ∈ s.dirCache, DirCacheLaw s → e.aperture = n → e.index = page / 1024 →
      let f := e.blockFrame
      let moved := s.dirCache.erase e ++ [e]
      (inRange f → exec (.arrival m r) s = .next
        { walking ⟨.blockRead f, n, page, .pending s.readySeq, false, true⟩ with
          dirCache := moved, readySeq := s.readySeq + 1 }) ∧
      (¬ inRange f → exec (.arrival m r) s = exec (.walkCompletion c (.fault (.tableOutOfRange f)))
        { walking ⟨.blockRead f, n, page, .none, false, true⟩ with dirCache := moved }))

/-- R36, R39: the offered completion is delivered and its tag becomes Free; with none offered nothing happens. -/
def Obligations.AcceptanceDeliversTheOldestCompletion : Prop :=
  ∀ (m : Master) (s : State), s.resetLow = false →
    ((s.port m).completions = [] → exec (.acceptance m) s = .next s) ∧
    (∀ c rest, (s.port m).completions = c :: rest → ∃ t, exec (.acceptance m) s = .next t ∧
      (∀ g, (t.port m).tag g = if g = c.tag then none else (s.port m).tag g) ∧
      t.port m = { s.port m with completions := rest, tags := (t.port m).tags } ∧
      (∀ o, o ≠ m → t.port o = s.port o) ∧
      t = { s with ports := t.ports, trace := .delivered m c :: s.trace })

/-- R40, R44: a port control write without Port Reset stores the enable, and the state follows it unless the port is Resetting.
A Port Reset ends when no issued access of the master remains: every tag Free, the port as its enable says, PortResetDone
set. -/
def Obligations.PortStatesFollowTheEnable : Prop :=
  ∀ (m : Master) (s : State), s.resetLow = false →
    (∀ enable, ∃ t, exec (.portEnableWrite m enable) s = .next t ∧
      t.port m = { s.port m with
        enable := enable,
        state := if (s.port m).state = .resetting then .resetting else if enable then .active else .disabled } ∧
      (∀ o, o ≠ m → t.port o = s.port o) ∧ t = { s with ports := t.ports }) ∧
    ((s.port m).state = .resetting → s.hasAccess m = false →
      ∃ t, exec (.endOfPortReset m) s = .next t ∧ (∀ g, (t.port m).tag g = none) ∧
        t.port m = { s.port m with
          tags := (t.port m).tags, state := if (s.port m).enable then .active else .disabled } ∧
        (∀ o, o ≠ m → t.port o = s.port o) ∧ t = { s with ports := t.ports, causes := s.causes ||| 0x200 })

/-- R40, R41, R44, R45, R104, R121: a Port Reset of a port that is not Resetting signals the indication, empties the master's
slots, reads and completions, and leaves its Issued writes; with no access issued it ends at once, with PortResetDone, and
otherwise the port is Resetting. Every request removed retires: the counts fall, and a drain that this ends closes its aperture
(R21, R24), and the fence counter falls by the counted items removed (R147, R151). Other masters' ports, queues and slots, all
accesses in flight and the invalidation queue stay. (Here a waiting fence goes on waiting: for one that completes in this event
see LastCountedRetirementCompletesTheFence.) A command while Resetting only stores the enable. -/
def Obligations.PortResetSweepsTheMastersWork : Prop :=
  ∀ (m : Master) (enable : Bool) (s : State), s.resetLow = false →
    ((s.port m).state = .resetting → ∃ t, exec (.portReset m enable) s = .next t ∧
      t.port m = { s.port m with enable := enable } ∧ (∀ o, o ≠ m → t.port o = s.port o) ∧
      t = { s with ports := t.ports }) ∧
    let counted := (s.queue m).reads.countP (fun e => e.counted) +
      (s.queue m).writes.countP (fun e => e.isTranslated ∧ e.counted)
    ((s.port m).state ≠ .resetting → (s.fenceWaiting = true → counted < s.fenceCounter) →
      ∃ t, exec (.portReset m enable) s = .next t ∧
      t.park = s.park.filter (·.master ≠ m) ∧
      (t.queue m).reads = [] ∧ (t.queue m).writes = (s.queue m).writes.filter (·.isIssued) ∧
      (∀ o, o ≠ m → t.port o = s.port o ∧ t.queue o = s.queue o) ∧
      t.port m = { s.port m with
        enable := enable, state := (t.port m).state, completions := [], tags := (t.port m).tags } ∧
      (s.hasAccess m = true → (t.port m).state = .resetting ∧ (t.port m).tags = (s.port m).tags) ∧
      (s.hasAccess m = false → (t.port m).state = (if enable then .active else .disabled) ∧
        (∀ g, (t.port m).tag g = none) ∧ t.causes.getLsbD 9 = true) ∧
      (let retiring (n : ApertureId) : Nat :=
        s.park.countP (fun k => k.master = m ∧ k.aperture = n) + (s.queue m).reads.countP (fun e => e.aperture = n) +
          (s.queue m).writes.countP (fun e => e.isTranslated ∧ e.aperture = n)
       Retired retiring s t ∧
        t.causes = s.retiredCauses retiring (if s.hasAccess m then s.causes else s.causes ||| 0x200)) ∧
      t.fenceCounter = s.fenceCounter - counted ∧
      t = { s with
        apertures := t.apertures, ports := t.ports, queues := t.queues, park := t.park
        pageCache := t.pageCache, dirCache := t.dirCache, causes := t.causes, fenceCounter := t.fenceCounter
        trace := .indication m :: s.trace })

/-! ## Memory port and arbiter -/

/-- R125, R126, R128: with 8 records no grant is made; with fewer, a pending walker read is granted before any master's
candidate, the one that became pending first, and the pointer stays. -/
def Obligations.GrantsServeTheEarlierWalkReadFirst : Prop :=
  ∀ (s : State), s.resetLow = false →
    (8 ≤ s.inFlight.length → exec .grant s = .next s) ∧
    (∀ (c : ContextId) (w : Walk) (t0 : Nat), s.inFlight.length < 8 → s.context c = some w → w.read = .pending t0 →
      (∀ d v u, d ≠ c → s.context d = some v → v.read = .pending u → t0 < u) →
      let entry := match w.phase with
        | .directoryRead => (s.aperture w.aperture).tableAddress.toNat * 16 + 4 * (w.page / 1024)
        | .blockRead f => f.toNat * 4096 + 4 * (w.page % 1024)
      let phys : PhysAddr := BitVec.ofNat 36 (entry - entry % 8)
      ∃ t, exec .grant s = .next t ∧
        (∀ d, t.context d = if d = c then some { w with read := .issued } else s.context d) ∧
        t = { s with
          contexts := t.contexts
          inFlight := s.inFlight ++ [.walk c w.aperture phys]
          trace := .issued (.read phys 1) :: s.trace })

/-- R125: with no walker read pending and no master's candidate no grant is made. R116, R127, R128: with room, and no walker
read pending, the first master after the pointer that offers a candidate is granted it: a read leaves its list, a write becomes
Issued in place, the record and the bus access take its fields, and the pointer names the master. -/
def Obligations.GrantsGoRoundTheMasters : Prop :=
  ∀ s : State, s.resetLow = false → (∀ c w t, s.context c = some w → w.read ≠ .pending t) →
    ((∀ o, s.candidate o = none) → exec .grant s = .next s) ∧
    ∀ (m : Master) (i : Nat), s.inFlight.length < 8 → 1 ≤ i → i ≤ 6 → m.val = (s.rrPointer.val + i) % 6 →
    (∀ (o : Master) (j : Nat), 1 ≤ j → j < i → o.val = (s.rrPointer.val + j) % 6 → s.candidate o = none) →
    (∀ e, s.candidate m = some (.read m e) → exec .grant s = .next
      { s with
        queues := s.queues.set m { s.queue m with reads := (s.queue m).reads.erase e }
        inFlight := s.inFlight ++ [.read ⟨m, e.tag, e.aperture, e.address, e.phys, e.length, e.counted⟩]
        rrPointer := m
        trace := .issued (.read e.phys e.length) :: s.trace }) ∧
    (∀ e p, s.candidate m = some (.write m e) → e.state = .translated p → exec .grant s = .next
      { s with
        queues := s.queues.set m { s.queue m with
          writes := (s.queue m).writes.takeWhile (·.isIssued) ++
            ({ e with state := .issued p } :: ((s.queue m).writes.dropWhile (·.isIssued)).tail) }
        inFlight := s.inFlight ++ [.write ⟨m, e.tag, e.aperture, e.address, p, e.beats.length, e.counted⟩]
        rrPointer := m
        trace := .issued (.write p e.beats) :: s.trace })

/-- R114 to R116: a write is eligible when it is Translated with every entry ahead of it Issued; a read is eligible when no
earlier-taken write of its 64-byte line is in the queue, in any state. A master's candidate is an eligible item of its own
queues, the earliest-taken of them all, a read before a write only where it is earlier-taken; it offers none exactly when no
item is eligible. -/
def Obligations.CandidatesRespectTheWriteOrderAndTheOverlapHold : Prop :=
  ∀ (s : State) (m : Master),
    let eligibleWrite (e : WriteEntry) : Prop := (∃ p, e.state = .translated p) ∧
      ∃ front back, (s.queue m).writes = front ++ e :: back ∧ ∀ y ∈ front, ∃ p, y.state = .issued p
    let eligibleRead (e : ReadEntry) : Prop := e ∈ (s.queue m).reads ∧
      ∀ w ∈ (s.queue m).writes, w.arrival < e.arrival → w.address.toNat / 64 ≠ e.address.toNat / 64
    (s.candidate m = none ↔ (∀ e, ¬ eligibleWrite e) ∧ ∀ e, ¬ eligibleRead e) ∧
    (∀ x, s.candidate m = some x →
      (∃ e, x = .write m e ∧ eligibleWrite e ∧ ∀ f, eligibleRead f → e.arrival ≤ f.arrival) ∨
      (∃ e, x = .read m e ∧ eligibleRead e ∧ (∀ f, eligibleRead f → e.arrival ≤ f.arrival) ∧
        ∀ f, eligibleWrite f → e.arrival < f.arrival)) ∧
    (∀ e f, eligibleWrite e → eligibleWrite f → e = f)

/-- R130, R136: a memory completion for a record marked for discard only removes the record. R132, R134, R135: a read's memory
completion appends its data, or MemoryError with a MemoryError record, to its master's completion queue, and the read retires:
its aperture's count falls, a drain that this ends closes the aperture (R21), and a counted one lowers the fence counter. R43,
R44: on a Resetting port nothing is appended, an Error is logged all the same, the read retires, and with no other access of the
master in flight the Port Reset ends, with every tag Free and PortResetDone set. (For a counted read that completes a waiting
fence see LastCountedRetirementCompletesTheFence.) -/
def Obligations.ReadCompletionsDeliverOrAreDiscarded : Prop :=
  ∀ (s : State) (rest : List AccessRecord) (r : BusResult), s.resetLow = false →
    (s.inFlight = .discarded :: rest → exec (.memoryCompletion r) s = .next { s with inFlight := rest }) ∧
    (∀ x, s.inFlight = .read x :: rest → (x.counted = true → s.fenceWaiting = true → 2 ≤ s.fenceCounter) →
      let resetting := (s.port x.master).state = .resetting
      let last := ∀ y ∈ rest, ∀ i, y = .read i ∨ y = .write i → i.master ≠ x.master
      let retiring (n : ApertureId) : Nat := if n = x.aperture then 1 else 0
      ∃ t u, exec (.memoryCompletion r) s = .next t ∧
        (match r with
        | .okay _ => u = s
        | .error => u = report ⟨.memoryError, x.master, x.tag, some x.aperture, .read, x.address,
            some (BitVec.ofNat 24 (x.phys.toNat / 4096)), 1⟩ s) ∧
        (¬ resetting → t.causes = s.retiredCauses retiring u.causes ∧ t.port x.master = { s.port x.master with
            completions := (s.port x.master).completions ++ [⟨x.tag, match r with
              | .okay beats => .okayRead (beats.toList.take x.length)
              | .error => .memoryError⟩] }) ∧
        (resetting → ¬ last → t.causes = s.retiredCauses retiring u.causes ∧ t.port x.master = s.port x.master) ∧
        (resetting → last → t.causes = s.retiredCauses retiring (u.causes ||| 0x200) ∧
          (∀ g, (t.port x.master).tag g = none) ∧
          t.port x.master = { s.port x.master with
            tags := (t.port x.master).tags
            state := if (s.port x.master).enable then .active else .disabled }) ∧
        (∀ o, o ≠ x.master → t.port o = s.port o) ∧ Retired retiring s t ∧
        t = { s with
          inFlight := rest, ports := t.ports, apertures := t.apertures, pageCache := t.pageCache, dirCache := t.dirCache
          log := u.log, overflow := u.overflow, causes := t.causes
          fenceCounter := if x.counted then s.fenceCounter - 1 else s.fenceCounter })

/-- R119, R120, R133 to R135: a write's memory completion removes the Issued head of its master's queue, and the write retires:
its aperture's count falls, a drain that this ends closes the aperture (R21), and a counted one lowers the fence counter. On a
port that is not Resetting an unposted write receives Okay, or MemoryError with a MemoryError record, and a posted one receives
nothing, and an Error is logged as PostedWriteLost. R43, R44: on a Resetting port neither receives anything, an Error is logged
as MemoryError for both, and with no other access of the master in flight the Port Reset ends, with every tag Free and
PortResetDone set. (For a counted write that completes a waiting fence see LastCountedRetirementCompletesTheFence.) -/
def Obligations.WriteCompletionsFollowThePosting : Prop :=
  ∀ (s : State) (x : ItemRecord) (rest : List AccessRecord) (e : WriteEntry) (es : List WriteEntry) (r : BusResult),
    s.resetLow = false → s.inFlight = .write x :: rest →
    (x.counted = true → s.fenceWaiting = true → 2 ≤ s.fenceCounter) → (s.queue x.master).writes = e :: es →
    e.isIssued = true →
    let resetting := (s.port x.master).state = .resetting
    let last := ∀ y ∈ rest, ∀ i, y = .read i ∨ y = .write i → i.master ≠ x.master
    let retiring (n : ApertureId) : Nat := if n = x.aperture then 1 else 0
    let logged (kind : FaultKind) : State := report ⟨kind, x.master, x.tag, some x.aperture, .write, x.address,
      some (BitVec.ofNat 24 (x.phys.toNat / 4096)), 1⟩ s
    ∃ t u, exec (.memoryCompletion r) s = .next t ∧
      (∀ beats, r = .okay beats → u = s) ∧
      (r = .error → e.posted = false ∨ resetting → u = logged .memoryError) ∧
      (r = .error → e.posted = true → ¬ resetting → u = logged .postedWriteLost) ∧
      (¬ resetting → t.causes = s.retiredCauses retiring u.causes ∧ t.port x.master = { s.port x.master with
          completions := (s.port x.master).completions ++ (match r, e.posted with
            | _, true => []
            | .okay _, false => [⟨e.tag, .okayWrite⟩]
            | .error, false => [⟨e.tag, .memoryError⟩]) }) ∧
      (resetting → ¬ last → t.causes = s.retiredCauses retiring u.causes ∧ t.port x.master = s.port x.master) ∧
      (resetting → last → t.causes = s.retiredCauses retiring (u.causes ||| 0x200) ∧
        (∀ g, (t.port x.master).tag g = none) ∧
        t.port x.master = { s.port x.master with
          tags := (t.port x.master).tags
          state := if (s.port x.master).enable then .active else .disabled }) ∧
      (∀ o, o ≠ x.master → t.port o = s.port o) ∧
      (∀ o, t.queue o = if o = x.master then { s.queue o with writes := es } else s.queue o) ∧ Retired retiring s t ∧
      t = { s with
        inFlight := rest, ports := t.ports, queues := t.queues, apertures := t.apertures, pageCache := t.pageCache
        dirCache := t.dirCache, log := u.log, overflow := u.overflow, causes := t.causes
        fenceCounter := if x.counted then s.fenceCounter - 1 else s.fenceCounter }

/-- R134, R145, R147 to R149, R151: the retirement of the last counted item completes the waiting fence in the same event: its
token, its cause if asked for, and it leaves the queue; the commands behind it, held back until then, are handled in the same
event, the first of them by its row. The retirement is the memory completion of a counted read or write, Okay or Error, whatever
its port and aperture, or the removal of counted items by a Port Reset. Everything else is as in the event that leaves one
counted item more (`v`: ReadCompletionsDeliverOrAreDiscarded, WriteCompletionsFollowThePosting, PortResetSweepsTheMastersWork).
That the drains have ended (in `v`) before the commands behind the fence are handled is R134's order for a memory completion;
for a Port Reset it is the model's own choice (log 9). -/
def Obligations.LastCountedRetirementCompletesTheFence : Prop :=
  let completes (c : Instr) (q : InvCommand) (rest : List InvCommand) (s : State) : Prop :=
    (∃ v, exec c { s with fenceCounter := s.fenceCounter + 1 } = .next v ∧
      HandledFrom (exec c s) (v.fenceCompleted q rest)) ∧
    (rest = [] → ∃ t, exec c s = .next t ∧
      t.fenceToken = q.index ∧ t.fenceCounter = 0 ∧ t.fenceWaiting = false ∧ t.invQueue = [] ∧
      t.causes.getLsbD 2 = (s.causes.getLsbD 2 || q.interrupt))
  (∀ (s : State) (x : ItemRecord) (flight : List AccessRecord) (r : BusResult) (q : InvCommand) (rest : List InvCommand),
    s.resetLow = false → (s.inFlight = .read x :: flight ∨ s.inFlight = .write x :: flight) → x.counted = true →
    s.fenceWaiting = true → s.fenceCounter = 1 → s.invQueue = q :: rest →
    completes (.memoryCompletion r) q rest s ∧
    (∀ beats, r = .okay beats → rest = [] → (s.port x.master).state ≠ .resetting →
      (s.aperture x.aperture).state ≠ .draining →
      ∃ t, exec (.memoryCompletion r) s = .next t ∧
        t.causes = if q.interrupt then s.causes ||| 0x004 else s.causes)) ∧
  ∀ (s : State) (m : Master) (enable : Bool) (q : InvCommand) (rest : List InvCommand), s.resetLow = false →
    (s.port m).state ≠ .resetting → s.fenceWaiting = true → s.invQueue = q :: rest → s.fenceCounter ≠ 0 →
    s.fenceCounter = (s.queue m).reads.countP (fun e => e.counted) +
      (s.queue m).writes.countP (fun e => e.isTranslated ∧ e.counted) →
    completes (.portReset m enable) q rest s

/-! ## Table walker -/

/-- R63, R70, R71, R74, R76 (cases 1 to 3), R79, R81, R84: the completion of a walk whose read is done, whatever its result.
Without waiters, or with its aperture Draining, it is discarded: nothing is filled, no waiter receives anything, the context
goes Idle, its report ends the drain that it allows, and the context is offered to the Queued slots. A stale walk with waiters
restarts in the same context: with no directory cache entry a new directory read becomes pending, with one a map read does, and
with the frame that this read needs out of range the walk completes in the same event with TableOutOfRange for that frame. -/
def Obligations.WaiterlessWalksEndAndStaleWalksRestart : Prop :=
  ∀ (s : State) (c : ContextId) (w : Walk) (r : WalkResult), s.resetLow = false → s.context c = some w →
    w.read = .none →
    ((∀ k ∈ s.park, k.placement ≠ .waiting c) ∨ (s.aperture w.aperture).state = .draining →
      ∃ u, exec (.endOfDrain w.aperture) { s with contexts := s.contexts.set c none } = .next u ∧
        exec (.walkCompletion c r) s = exec (.takeover c) u ∧
        ((∀ k ∈ s.park, k.placement ≠ .queued) → exec (.walkCompletion c r) s = .next u) ∧
        ((s.aperture w.aperture).state ≠ .draining → u = { s with contexts := s.contexts.set c none })) ∧
    (w.stale = true → (∃ k ∈ s.park, k.placement = .waiting c) → (s.aperture w.aperture).state ≠ .draining →
      let walking (v : Walk) : State := { s with contexts := s.contexts.set c (some v) }
      let inRange (f : Frame) : Prop := s.classify f.toNat = .normal ∨ s.classify f.toNat = .readOnly
      ((∀ e ∈ s.dirCache, ¬ (e.aperture = w.aperture ∧ e.index = w.page / 1024)) →
        let f : Frame := BitVec.ofNat 24 ((s.aperture w.aperture).tableAddress.toNat / 256)
        (inRange f → exec (.walkCompletion c r) s = .next
          { walking ⟨.directoryRead, w.aperture, w.page, .pending s.readySeq, false, false⟩ with
            readySeq := s.readySeq + 1 }) ∧
        (¬ inRange f → exec (.walkCompletion c r) s = exec (.walkCompletion c (.fault (.tableOutOfRange f)))
          (walking ⟨.directoryRead, w.aperture, w.page, .none, false, false⟩))) ∧
      (∀ e ∈ s.dirCache, DirCacheLaw s → e.aperture = w.aperture → e.index = w.page / 1024 →
        let f := e.blockFrame
        let moved := s.dirCache.erase e ++ [e]
        (inRange f → exec (.walkCompletion c r) s = .next
          { walking ⟨.blockRead f, w.aperture, w.page, .pending s.readySeq, false, true⟩ with
            dirCache := moved, readySeq := s.readySeq + 1 }) ∧
        (¬ inRange f → exec (.walkCompletion c r) s = exec (.walkCompletion c (.fault (.tableOutOfRange f)))
          { walking ⟨.blockRead f, w.aperture, w.page, .none, false, true⟩ with dirCache := moved })))

/-- R51 to R53, R64, R70, R76 (cases 4 and 5), R77 to R79: the judged completion of a walk that is not stale, with waiters and
an Open or Halted aperture. A fault leaves the page cache as it was; a success leaves the walk's translation as the most recent
entry, pinned where it asks for it and fewer than 8 others are, and sets PinLimit where it asks in vain; a full cache loses its
least recent entry that is not pinned, and one with room loses none. Either way every waiter's slot is freed, every other slot
keeps its place, and the context goes Idle. The waiters are settled one after another in their order: the completions, the read
issue entries and the reports of one master come in it, each write's entry is translated in place or removed, the count falls by
the number that failed, and with halt on fault an Open aperture of which one failed is Halted. The causes set are those of the
reports, ApertureHalted where it is Halted, PinLimit, and no other. Which frame is logged for an access frame from 16,777,216 on
is open (log 6). The Idle report changes nothing here, and the settled state `t` then offers the context to the Queued slots
(R70, R79). -/
def Obligations.JudgedWalksSettleEveryWaiter : Prop :=
  ∀ (s : State) (c : ContextId) (w : Walk) (r : WalkResult), s.resetLow = false → s.context c = some w →
    w.read = .none → w.stale = false → (∃ k ∈ s.park, k.placement = .waiting c) →
    ParkLaw s → r ≠ .discarded →
    ((s.aperture w.aperture).state = .opened ∨ (s.aperture w.aperture).state = .halted) →
    (∀ k ∈ s.park, k.placement = .waiting c → k.aperture = w.aperture) →
    let a := s.aperture w.aperture
    let waiters := s.park.filter (fun k => k.placement = .waiting c)
    let phys (f : Frame) (k : ParkSlot) : Nat := f.toNat * 4096 + (k.address.toNat - a.base.toNat) % a.pageSize.bytes
    let outcome (k : ParkSlot) : Option TransFault := match r with
      | .success f access _ => s.check k.kind access (phys f k / 4096)
      | .fault .notValid => some .notValid
      | .fault (.misalignedFrame _) => some .misalignedFrame
      | .fault (.tableOutOfRange _) => some .tableOutOfRange
      | .fault (.tableReadError _) => some .tableReadError
      | .discarded => none
    let made (kind : TransFault) (k : ParkSlot) (f : Option Frame) : FaultRecord :=
      ⟨.translation kind, k.master, k.tag, some k.aperture, k.kind, k.address, f, 1⟩
    let logged : State := waiters.foldl (fun u k => match r with
      | .success f _ _ => match outcome k with
        | some kind => reportCheck kind k.master k.tag k.aperture k.kind k.address (phys f k / 4096) u
        | none => u
      | .fault .notValid => report (made .notValid k none) u
      | .fault (.misalignedFrame f) => report (made .misalignedFrame k (some f)) u
      | .fault (.tableOutOfRange f) => report (made .tableOutOfRange k (some f)) u
      | .fault (.tableReadError f) => report (made .tableReadError k (some f)) u
      | .discarded => u) s
    let failed := waiters.countP (fun k => (outcome k).isSome)
    let causes : BitVec 10 :=
      if a.haltOnFault = true ∧ a.state = .opened ∧ failed ≠ 0 then logged.causes ||| 0x010 else logged.causes
    ∃ t, exec (.walkCompletion c r) s = exec (.takeover c) t ∧
      ((∀ k ∈ s.park, k.placement ≠ .queued) → exec (.walkCompletion c r) s = .next t) ∧
      (∀ m, (s.port m).state = .resetting → t.port m = s.port m) ∧
      (∀ m, (s.port m).state ≠ .resetting → t.port m = { s.port m with
        completions := (s.port m).completions ++ (waiters.filter (·.master = m)).flatMap (fun k => match outcome k with
          | some kind => [⟨k.tag, .fault kind⟩]
          | none => if k.kind = .write ∧ a.posting = true then [⟨k.tag, .okayWrite⟩] else []) }) ∧
      (∀ m, (t.queue m).reads = (s.queue m).reads ++ (waiters.filter (·.master = m)).flatMap (fun k =>
        match r, k.kind, outcome k with
        | .success f _ _, .read, none =>
          [⟨k.tag, k.arrival, k.address, BitVec.ofNat 36 (phys f k), k.length, k.aperture, false⟩]
        | _, _, _ => [])) ∧
      (∀ m, (t.queue m).writes = (waiters.filter (fun k => k.master = m ∧ k.kind = .write)).foldl (fun l k =>
        match r, outcome k with
        | .success f _ _, none => updateFirst (fun e => e.state = .untranslated ∧ e.tag = k.tag)
            (fun e => { e with state := .translated (BitVec.ofNat 36 (phys f k)), posted := a.posting }) l
        | _, _ => l.eraseP (fun e => e.state = .untranslated ∧ e.tag = k.tag)) (s.queue m).writes) ∧
      t.log = logged.log ∧ t.overflow = logged.overflow ∧ t.freeCount = logged.freeCount ∧
      t.aperture w.aperture = { a with
        count := a.count - failed
        state := if a.haltOnFault = true ∧ failed ≠ 0 then .halted else a.state } ∧
      t.park = s.park.filter (fun k => k.placement ≠ .waiting c) ∧
      (∀ d, t.context d = if d = c then none else s.context d) ∧
      (match r with
      | .success frame access keep => ∃ rest, t.pageCache = rest ++
          [⟨w.aperture, w.page, frame, access, keep && decide (pinnedCount rest < 8)⟩] ∧
          ((∀ e ∈ s.pageCache, ¬ (e.aperture = w.aperture ∧ e.page = w.page)) →
            (s.pageCache.length < 32 → rest = s.pageCache) ∧
            (∀ pre v post, 32 ≤ s.pageCache.length → s.pageCache = pre ++ v :: post → v.pinned = false →
              (∀ e ∈ pre, e.pinned = true) → rest = pre ++ post)) ∧
          t.causes = if keep = true ∧ 8 ≤ pinnedCount rest then causes ||| 0x100 else causes
      | .fault _ => t.pageCache = s.pageCache ∧ t.causes = causes
      | .discarded => True) ∧
      (∀ n, n ≠ w.aperture → t.aperture n = s.aperture n) ∧
      t = { s with
        contexts := t.contexts, park := t.park, pageCache := t.pageCache, apertures := t.apertures, ports := t.ports
        queues := t.queues, log := t.log, overflow := t.overflow, causes := t.causes, freeCount := t.freeCount }

/-- R63, R70, R71, R74: an Idle context is taken by the oldest Queued slot, and every other Queued slot of its key joins. In an
aperture that is not Draining the walk then makes its table read pending: a directory read with no directory cache entry, a map
read with one, which moves to the most recent position. With the frame that this read needs out of range the walk completes in
the same event with TableOutOfRange for that frame, and so the context is offered to the other Queued slots in turn. -/
def Obligations.TakeoverStartsTheOldestQueuedSlotsWalk : Prop :=
  ∀ (s : State) (c : ContextId) (k : ParkSlot) (pre post : List ParkSlot), s.resetLow = false →
    s.context c = none → s.park = pre ++ k :: post → (∀ x ∈ pre, x.placement ≠ .queued) → k.placement = .queued →
    (s.aperture k.aperture).state ≠ .draining →
    let walking (w : Walk) : State :=
      { s with
        contexts := s.contexts.set c (some w)
        park := s.park.map fun x =>
          if x.placement = .queued ∧ x.aperture = k.aperture ∧ x.page = k.page then { x with placement := .waiting c }
          else x }
    let inRange (f : Frame) : Prop := s.classify f.toNat = .normal ∨ s.classify f.toNat = .readOnly
    ((∀ e ∈ s.dirCache, ¬ (e.aperture = k.aperture ∧ e.index = k.page / 1024)) →
      let f : Frame := BitVec.ofNat 24 ((s.aperture k.aperture).tableAddress.toNat / 256)
      (inRange f → exec (.takeover c) s = .next
        { walking ⟨.directoryRead, k.aperture, k.page, .pending s.readySeq, false, false⟩ with
          readySeq := s.readySeq + 1 }) ∧
      (¬ inRange f → exec (.takeover c) s = exec (.walkCompletion c (.fault (.tableOutOfRange f)))
        (walking ⟨.directoryRead, k.aperture, k.page, .none, false, false⟩))) ∧
    (∀ e ∈ s.dirCache, DirCacheLaw s → e.aperture = k.aperture → e.index = k.page / 1024 →
      let f := e.blockFrame
      let moved := s.dirCache.erase e ++ [e]
      (inRange f → exec (.takeover c) s = .next
        { walking ⟨.blockRead f, k.aperture, k.page, .pending s.readySeq, false, true⟩ with
          dirCache := moved, readySeq := s.readySeq + 1 }) ∧
      (¬ inRange f → exec (.takeover c) s = exec (.walkCompletion c (.fault (.tableOutOfRange f)))
        { walking ⟨.blockRead f, k.aperture, k.page, .none, false, true⟩ with dirCache := moved }))

/-- R51, R53, R60, R77, R78, R110, R112, R118, R154: the one waiter of a judged walk, on a port that is not Resetting, in an
Open or Halted aperture. On a success its physical address comes from its own master address; passing its checks, a read joins
its master's read issue list, and a write becomes Translated in place, with Okay at once where the aperture posts. Failing them,
or on a walk fault, it receives its Fault, which is logged with the frame its kind carries, its Untranslated entry is removed,
its count falls, and with halt on fault an Open aperture is Halted. The causes set are those of the report and of the halt,
PinLimit where the walk asks for a pin that 8 others hold, and no other. The settled state `t` then offers the context to the
Queued slots (R70, R79). -/
def Obligations.TheWaiterOfAWalkIsServedOrFaulted : Prop :=
  ∀ (s : State) (c : ContextId) (w : Walk) (k : ParkSlot) (r : WalkResult), s.resetLow = false →
    s.context c = some w → w.read = .none → w.stale = false →
    s.park.filter (fun x => x.placement = .waiting c) = [k] →
    k.aperture = w.aperture → (s.port k.master).state ≠ .resetting →
    ((s.aperture w.aperture).state = .opened ∨ (s.aperture w.aperture).state = .halted) →
    let a := s.aperture w.aperture
    let phys (f : Frame) := f.toNat * 4096 + (k.address.toNat - a.base.toNat) % a.pageSize.bytes
    let keeps : Bool := match r with
      | .success _ _ keep => keep
      | .fault _ | .discarded => false
    let limited (t : State) (causes : BitVec 10) : BitVec 10 :=
      if keeps = true ∧ 8 ≤ pinnedCount t.pageCache.dropLast then causes ||| 0x100 else causes
    ∃ t, exec (.walkCompletion c r) s = exec (.takeover c) t ∧
      ((∀ x ∈ s.park, x.placement ≠ .queued) → exec (.walkCompletion c r) s = .next t) ∧
      (∀ f access keep, r = .success f access keep → s.check k.kind access (phys f / 4096) = none →
        (∀ n, t.aperture n = s.aperture n) ∧ t.causes = limited t s.causes ∧
        (k.kind = .read → t.ports = s.ports ∧ ∀ o, t.queue o = if o = k.master then { s.queue o with
          reads := (s.queue o).reads ++
            [⟨k.tag, k.arrival, k.address, BitVec.ofNat 36 (phys f), k.length, k.aperture, false⟩] } else s.queue o) ∧
        (∀ front e back, k.kind = .write → (s.queue k.master).writes = front ++ e :: back → e.state = .untranslated →
          e.tag = k.tag → (∀ x ∈ front, ¬ (x.state = .untranslated ∧ x.tag = k.tag)) →
          (∀ o, t.queue o = if o = k.master then { s.queue o with
            writes := front ++ { e with state := .translated (BitVec.ofNat 36 (phys f)), posted := a.posting } :: back }
            else s.queue o) ∧
          (∀ o, t.port o = if o = k.master ∧ a.posting = true then { s.port o with
            completions := (s.port o).completions ++ [⟨k.tag, .okayWrite⟩] } else s.port o))) ∧
      (∀ kind, (∃ f access keep, r = .success f access keep ∧ s.check k.kind access (phys f / 4096) = some kind) ∨
          r = .fault .notValid ∧ kind = .notValid ∨ (∃ f, r = .fault (.misalignedFrame f) ∧ kind = .misalignedFrame) ∨
          (∃ f, r = .fault (.tableOutOfRange f) ∧ kind = .tableOutOfRange) ∨
          (∃ f, r = .fault (.tableReadError f) ∧ kind = .tableReadError) →
        (∀ o, t.port o = if o = k.master then { s.port o with
          completions := (s.port o).completions ++ [⟨k.tag, .fault kind⟩] } else s.port o) ∧
        (∀ o, t.queue o = if o = k.master ∧ k.kind = .write then { s.queue o with
          writes := (s.queue o).writes.eraseP (fun e => e.state = .untranslated ∧ e.tag = k.tag) } else s.queue o) ∧
        (∀ n, t.aperture n = if n = w.aperture then { a with
          count := a.count - 1,
          state := if a.haltOnFault = true then .halted else a.state } else s.aperture n) ∧
        ∃ x : Option Frame,
          (∀ f, r = .fault (.misalignedFrame f) ∨ r = .fault (.tableOutOfRange f) ∨ r = .fault (.tableReadError f) →
            x = some f) ∧
          (kind = .notValid ∨ kind = .accessDenied → x = none) ∧
          (∀ f access keep, r = .success f access keep → kind ≠ .accessDenied → phys f / 4096 < 16777216 →
            x = some (BitVec.ofNat 24 (phys f / 4096))) ∧
          let u := report ⟨.translation kind, k.master, k.tag, some k.aperture, k.kind, k.address, x, 1⟩ s
          t.log = u.log ∧ t.overflow = u.overflow ∧
          t.causes = limited t (if a.haltOnFault = true ∧ a.state = .opened then u.causes ||| 0x010 else u.causes))

/-- R11, R12, R56, R63, R71 to R75, R131, R182: the memory completion of a walk's read. A directory read with Error or an entry
that is not valid, and every map read, complete the walk with the result the rules give. After a valid directory entry a walk
without waiters, of a Draining aperture, or stale completes with its result discarded and fills nothing; any other, of an Open
or Halted aperture, fills the directory cache, over the entry of its key or else, in a full cache, in place of the least recent
entry, and then completes with TableOutOfRange where the block frame is out of range, or makes its map read pending. -/
def Obligations.WalkReadsAreJudgedByTheirEntry : Prop :=
  ∀ (s : State) (c : ContextId) (n : ApertureId) (p : PhysAddr) (rest : List AccessRecord) (w : Walk) (r : BusResult),
    s.resetLow = false → s.inFlight = .walk c n p :: rest → s.context c = some w →
    let a := s.aperture w.aperture
    let s0 : State := { s with inFlight := rest, contexts := s.contexts.set c (some { w with read := .none }) }
    let completes (x : WalkResult) := exec (.memoryCompletion r) s = exec (.walkCompletion c x) s0
    let half (beat : Beat) (entryAddress : Nat) : Word :=
      if entryAddress % 8 = 0 then beat.extractLsb' 0 32 else beat.extractLsb' 32 32
    (w.phase = .directoryRead →
      (r = .error → completes (.fault (.tableReadError (BitVec.ofNat 24 (a.tableAddress.toNat / 256))))) ∧
      (∀ beats, r = .okay beats →
        let e := half beats[0] (a.tableAddress.toNat * 16 + 4 * (w.page / 1024))
        let f : Frame := e.extractLsb' 8 24
        (e.getLsbD 0 = false → completes (.fault .notValid)) ∧
        (e.getLsbD 0 = true → w.dirUsed = false →
          let waited := ∃ k ∈ s.park, k.placement = .waiting c
          let inRange := s.classify f.toNat = .normal ∨ s.classify f.toNat = .readOnly
          let others := s.dirCache.filter (fun d => ¬ (d.aperture = w.aperture ∧ d.index = w.page / 1024))
          let filled := (if others.length < s.dirCache.length then others
            else if s.dirCache.length < 8 then s.dirCache else s.dirCache.tail) ++ [⟨w.aperture, w.page / 1024, f⟩]
          let entered (read : ReadState) (dirs : List DirEntry) : State := { s with
            inFlight := rest, dirCache := dirs
            contexts := s.contexts.set c (some { w with phase := .blockRead f, read := read }) }
          (¬ waited ∨ a.state = .draining ∨ w.stale = true →
            exec (.memoryCompletion r) s = exec (.walkCompletion c .discarded) (entered .none s.dirCache)) ∧
          (waited → w.stale = false → (a.state = .opened ∨ a.state = .halted) →
            (¬ inRange → exec (.memoryCompletion r) s =
              exec (.walkCompletion c (.fault (.tableOutOfRange f))) (entered .none filled)) ∧
            (inRange → exec (.memoryCompletion r) s = .next
              { entered (.pending s.readySeq) filled with readySeq := s.readySeq + 1 }))))) ∧
    (∀ block, w.phase = .blockRead block →
      (r = .error → completes (.fault (.tableReadError block))) ∧
      (∀ beats, r = .okay beats →
        let e := half beats[0] (block.toNat * 4096 + 4 * (w.page % 1024))
        let f : Frame := e.extractLsb' 8 24
        let access : MapAccess := match e.getLsbD 2, e.getLsbD 1 with
          | false, false => .noAccess
          | false, true => .read
          | true, false => .write
          | true, true => .readWrite
        (e.getLsbD 0 = false → completes (.fault .notValid)) ∧
        (e.getLsbD 0 = true → a.pageSize = .k64 → f.toNat % 16 ≠ 0 → completes (.fault (.misalignedFrame f))) ∧
        (e.getLsbD 0 = true → (a.pageSize = .k4 ∨ f.toNat % 16 = 0) → completes (.success f access (e.getLsbD 3)))))

/-! ## Park table -/

/-- R94 to R98: at a tick every busy slot with a timer counts one more. The slots whose ticks counted reach their limit + 1
expire, one after another in arrival order: Timeout to its master, a Timeout record, its Untranslated entry removed if it is a
write, its slot Free, its retirement, with which a drain may end (R21, R24). EXPIRY of a slot that is due does the same for it
alone, and of one that is not due it does nothing. -/
def Obligations.TicksCountAndExpiriesSettle : Prop :=
  ∀ s : State, s.resetLow = false → ParkLaw s →
    let counted (k : ParkSlot) : ParkSlot := if k.limit = 0 then k else { k with ticks := k.ticks + 1 }
    let due (k : ParkSlot) : Bool := k.limit ≠ 0 ∧ k.limit.toNat + 1 ≤ k.ticks
    (∀ i : SlotId, (∀ k ∈ s.park, k.num = i → due k = false) → exec (.expiry i) s = .next s) ∧
    ∀ (c : Instr) (expired others : List ParkSlot),
      (c = .tick ∧ expired = (s.park.map counted).filter due ∧ others = (s.park.map counted).filter (fun k => !due k) ∨
        ∃ k ∈ s.park, due k = true ∧ c = .expiry k.num ∧ expired = [k] ∧ others = s.park.erase k) →
      let logged := expired.foldl (fun u k =>
        report ⟨.timeout, k.master, k.tag, some k.aperture, k.kind, k.address, none, 1⟩ u) s
      let retiring (n : ApertureId) : Nat := expired.countP (fun k => k.aperture = n)
      ∃ t, exec c s = .next t ∧
        (∀ m, (s.port m).state = .resetting → t.port m = s.port m) ∧
        (∀ m, (s.port m).state ≠ .resetting → t.port m = { s.port m with
          completions := (s.port m).completions ++
            (expired.filter (·.master = m)).map (fun k => ⟨k.tag, .timeout⟩) }) ∧
        (∀ m, t.queue m = { s.queue m with
          writes := (expired.filter (fun k => k.master = m ∧ k.kind = .write)).foldl
            (fun l k => l.eraseP (fun e => e.state = .untranslated ∧ e.tag = k.tag)) (s.queue m).writes }) ∧
        Retired retiring s t ∧
        t = { s with
          park := others, ports := t.ports, queues := t.queues, apertures := t.apertures, pageCache := t.pageCache
          dirCache := t.dirCache, log := logged.log, overflow := logged.overflow
          causes := s.retiredCauses retiring logged.causes }

/-! ## Invalidation queue and fences -/

/-- R139 to R142: a push judges the staged kind, then the space; a command pushed behind a waiting fence joins the tail. -/
def Obligations.PushJudgesTheKindThenTheSpace : Prop :=
  ∀ (v : Word) (s : State), s.resetLow = false →
    (5 ≤ s.staging.kind.toNat → exec (.push v) s = .next
      { s with causes := s.causes ||| 0x080, progError := ⟨.badCommand, 0x068⟩ }) ∧
    (s.staging.kind.toNat ≤ 4 → 8 ≤ s.invQueue.length →
      exec (.push v) s = .next { s with causes := s.causes ||| 0x040 }) ∧
    (s.staging.kind.toNat ≤ 4 → s.invQueue.length < 8 → s.invQueue ≠ [] →
      ∃ q, exec (.push v) s = .next { s with invQueue := s.invQueue ++ [q] } ∧
        q.kind = (match s.staging.kind.toNat with
          | 0 => .page | 1 => .range | 2 => .directory | 3 => .aperture | _ => .fence) ∧
        q.aperture = s.staging.aperture ∧ q.index = s.staging.index ∧ q.interrupt = s.staging.interrupt ∧
        q.firstPage = s.staging.firstPage ∧ q.count = s.staging.count)

/-- R65, R80, R142 to R144, R149: an invalidation command that becomes the head of the queue. Within the pages and directory
entries of an aperture that is not Closed it removes what it covers from both caches and marks the walks it covers; outside them
it is discarded with InvalidationError; naming a Closed aperture it covers nothing. It leaves the queue, and the command behind
it is handled in the same event, by its row. While a fence waits nothing is handled. Stated for each of the four rows. -/
def Obligations.InvalidationsRemoveExactlyWhatTheyCover : Prop :=
  ∀ (c : Instr) (q : InvCommand) (rest : List InvCommand) (s : State), s.resetLow = false → s.invQueue = q :: rest →
    (c = .invalidatePage ∧ q.kind = .page ∨ c = .invalidateRange ∧ q.kind = .range ∨
      c = .invalidateDirectory ∧ q.kind = .directory ∨ c = .invalidateAperture ∧ q.kind = .aperture) →
    let a := s.aperture q.aperture
    let pages := 2 ^ a.sizeCode.toNat * 2 ^ 20 / a.pageSize.bytes
    let covered (n : ApertureId) (page : Nat) : Prop := n = q.aperture ∧
      (match q.kind with
      | .page => page = q.firstPage.toNat
      | .range => q.firstPage.toNat ≤ page ∧ page ≤ q.firstPage.toNat + q.count.toNat - 1
      | .directory => page / 1024 = q.index.toNat
      | .aperture => True
      | .fence => False)
    let legal : Prop := match q.kind with
      | .page => q.firstPage.toNat < pages
      | .range => q.count.toNat ≠ 0 ∧ q.firstPage.toNat + q.count.toNat ≤ pages
      | .directory => q.index.toNat < pages / 1024 ∨ q.index.toNat = 0
      | .aperture => True
      | .fence => False
    let closed := (s.aperture q.aperture).state = .closed
    (s.fenceWaiting = true → exec c s = .next s) ∧
    (s.fenceWaiting = false → ∃ t, HandledFrom (exec c s) t ∧
      (closed → t = { s with invQueue := rest }) ∧
      (¬ closed → ¬ legal → t = { s with invQueue := rest, causes := s.causes ||| 0x020 }) ∧
      (¬ closed → legal →
        (∀ e, e ∈ t.pageCache ↔ e ∈ s.pageCache ∧ ¬ covered e.aperture e.page) ∧ t.pageCache.Sublist s.pageCache ∧
        (∀ e, e ∈ t.dirCache ↔ e ∈ s.dirCache ∧ ¬ (e.aperture = q.aperture ∧
          (q.kind = .aperture ∨ q.kind = .directory ∧ e.index = q.index.toNat))) ∧
        t.dirCache.Sublist s.dirCache ∧
        (∀ d, (s.context d = none → t.context d = none) ∧ ∀ w, s.context d = some w →
          (covered w.aperture w.page → t.context d = some { w with stale := true }) ∧
          (¬ covered w.aperture w.page → t.context d = some w)) ∧
        t = { s with invQueue := rest, pageCache := t.pageCache, dirCache := t.dirCache, contexts := t.contexts }))

/-- R139 to R143, R145: a command pushed on an empty queue is the head at once: the push is the execution or the start of the
command that the staging words hold, as its row states it. One that names a Closed aperture changes nothing at all. -/
def Obligations.PushOnAnEmptyQueueHandlesTheCommand : Prop :=
  ∀ (v : Word) (s : State) (c : Instr) (k : InvKind), s.resetLow = false → s.invQueue = [] → s.fenceWaiting = false →
    (s.staging.kind = 0 ∧ c = .invalidatePage ∧ k = .page ∨ s.staging.kind = 1 ∧ c = .invalidateRange ∧ k = .range ∨
      s.staging.kind = 2 ∧ c = .invalidateDirectory ∧ k = .directory ∨
      s.staging.kind = 3 ∧ c = .invalidateAperture ∧ k = .aperture ∨ s.staging.kind = 4 ∧ c = .fence ∧ k = .fence) →
    let q : InvCommand := ⟨k, s.staging.aperture, s.staging.index, s.staging.interrupt, s.staging.firstPage,
      s.staging.count⟩
    exec (.push v) s = exec c { s with invQueue := [q] } ∧
    (k ≠ .fence → (s.aperture s.staging.aperture).state = .closed → exec (.push v) s = .next s)

/-- R142, R145, R148, R149: a fence that becomes the head marks every item and sets the counter to their number: the reads and
Translated writes of every master's queues, and the Read and Write records. With none it completes at once; otherwise it waits,
and the commands behind it with it. A waiting fence whose counter is 0 completes: its token, its cause if asked for, and it
leaves the queue; at any other time FENCE_COMPLETION does nothing (log 2). After a completion the command behind the fence is
handled in the same event, by its row. -/
def Obligations.FencesMarkCountAndComplete : Prop :=
  ∀ (q : InvCommand) (rest : List InvCommand) (s : State), s.resetLow = false → s.invQueue = q :: rest →
    let items := (allMasters.map fun m =>
        (s.queue m).reads.length + (s.queue m).writes.countP (fun e => e.isTranslated)).sum
      + s.inFlight.countP (fun x => x.item.isSome)
    (q.kind = .fence → s.fenceWaiting = true → exec .fence s = .next s) ∧
    (q.kind = .fence → s.fenceWaiting = false → ∃ t,
      (∀ m, (t.queue m).reads = (s.queue m).reads.map (fun e => { e with counted := true }) ∧
        (t.queue m).writes = (s.queue m).writes.map
          (fun e => { e with counted := if e.state = .untranslated then e.counted else true })) ∧
      t.inFlight = s.inFlight.map (fun x => match x with
        | .read i => .read { i with counted := true }
        | .write i => .write { i with counted := true }
        | .walk d n p => .walk d n p
        | .discarded => .discarded) ∧
      (items ≠ 0 → exec .fence s = .next t ∧ t.markedCount = items ∧ t = { s with
        queues := t.queues, inFlight := t.inFlight, fenceCounter := items, fenceWaiting := true }) ∧
      (items = 0 → HandledFrom (exec .fence s) t ∧ t = { s with
        queues := t.queues, inFlight := t.inFlight, fenceCounter := 0, fenceWaiting := false, invQueue := rest,
        fenceToken := q.index, causes := if q.interrupt then s.causes ||| 0x004 else s.causes })) ∧
    (s.fenceWaiting = true → s.fenceCounter = 0 → HandledFrom (exec .fenceCompletion s) (s.fenceCompleted q rest)) ∧
    (s.fenceWaiting = false ∨ s.fenceCounter ≠ 0 → exec .fenceCompletion s = .next s)

/-! ## Fault log and interrupt -/

/-- R158 to R160: a report coalesces into the newest record when the two match, is added when it does not and there is room, and
is dropped otherwise. -/
def Obligations.ReportsCoalesceAddOrDrop : Prop :=
  ∀ (r : FaultRecord) (s : State),
    (∀ older newest, s.log = older ++ [newest] → r.kind = newest.kind → r.master = newest.master →
      r.aperture = newest.aperture → r.access = newest.access →
      r.address.toNat / 4096 = newest.address.toNat / 4096 →
      report r s = { s with
        log := older ++ [{ newest with repeats := if newest.repeats < 255 then newest.repeats + 1 else newest.repeats }]
        causes := s.causes ||| 0x001 }) ∧
    ((∀ older newest, s.log = older ++ [newest] → ¬ (r.kind = newest.kind ∧ r.master = newest.master ∧
        r.aperture = newest.aperture ∧ r.access = newest.access ∧
        r.address.toNat / 4096 = newest.address.toNat / 4096)) →
      report r s = if s.log.length < 8 then { s with log := s.log ++ [r], causes := s.causes ||| 0x001 }
        else { s with overflow := true, causes := s.causes ||| 0x002 })

/-- R162: a Pop, whatever its value, removes the oldest record, so that the record words show the next one; on an empty list it
changes nothing. The Pop word reads 0. R180: the four record words show the oldest record, field by field (the layout and the
kind codes of section 10.6), and read 0 while the list is empty. -/
def Obligations.PopRemovesTheOldestRecord : Prop :=
  (∀ (v : Word) (s : State), s.resetLow = false → s.readWord .pop = 0 ∧
    (s.log = [] → exec (.pop v) s = .next s) ∧
    (∀ r rest, s.log = r :: rest → exec (.pop v) s = .next { s with log := rest })) ∧
  ∀ s : State,
    (s.log = [] → ∀ k, s.readWord (.faultRecord k) = 0) ∧
    (∀ r rest, s.log = r :: rest →
      let code : Nat := match r.kind with
        | .translation .notValid => 1
        | .translation .accessDenied => 2
        | .translation .misalignedFrame => 3
        | .translation .outOfRange => 4
        | .translation .regionReadOnly => 5
        | .translation .tableOutOfRange => 6
        | .translation .tableReadError => 7
        | .memoryError => 8
        | .postedWriteLost => 9
        | .timeout => 10
        | .protocolError => 11
        | .noAperture => 12
        | .notPermitted => 13
      s.readWord (.faultRecord 0) = BitVec.ofNat 32 (2 ^ 31 + (if r.access = .write then 2 ^ 12 else 0) +
        r.tag.val * 2 ^ 8 + r.master.val * 2 ^ 4 + code) ∧
      s.readWord (.faultRecord 1) = r.address ∧
      (r.frame = none → s.readWord (.faultRecord 2) = 0) ∧
      (∀ f, r.frame = some f → s.readWord (.faultRecord 2) = BitVec.ofNat 32 (2 ^ 31 + f.toNat)) ∧
      (r.aperture = none → s.readWord (.faultRecord 3) = BitVec.ofNat 32 (r.repeats * 2 ^ 16)) ∧
      (∀ n, r.aperture = some n →
        s.readWord (.faultRecord 3) = BitVec.ofNat 32 (r.repeats * 2 ^ 16 + 2 ^ 15 + n.val)))

/-- R164, R165, R178: a cause write clears the causes whose bit carries 1, LogOverflow with the overflow flag; a cause enable
write stores the ten enables; INT# is asserted while the conjunction of the two words is not 0. -/
def Obligations.CausesAndEnablesDriveTheInterrupt : Prop :=
  ∀ (v : Word) (s : State), s.resetLow = false →
    (∃ t, exec (.causeClear v) s = .next t ∧
      t.readWord .cause = s.readWord .cause &&& ~~~v ∧ t.overflow = (s.overflow && !v.getLsbD 1) ∧
      t = { s with causes := t.causes, overflow := t.overflow }) ∧
    (∃ t, exec (.causeEnableWrite v) s = .next t ∧ t.readWord .causeEnable = v &&& 0x3FF ∧
      t = { s with enables := t.enables }) ∧
    (s.intAsserted = true ↔ s.readWord .cause &&& s.readWord .causeEnable ≠ 0)

/-! ## Register window -/

/-- R57, R93, R139, R172, R176, R179: what the host stores is what it reads back, and nothing else changes: the global Enable,
the park timeout, a region (its end clamped, attribute 3 as Absent), the staging words. R1, R25, R57, R93, R138, R139, R150,
R161, R164, R165, R171, R172, R175 to R179 and the layouts of section 10.6: what every word reads, field by field, the stored
ones and those that report the part's own state (for the fault record words see PopRemovesTheOldestRecord). R168 to R170,
section 10.1: which word a full read of each offset returns, and the lanes of a narrow read. (A read is a function of the state,
log 14.) -/
def Obligations.StoredWordsReadBack : Prop :=
  (∀ s : State,
    let bit (b : Bool) : Nat := if b then 1 else 0
    let word (x : Nat) : Word := BitVec.ofNat 32 x
    s.readWord .identification = 0x4A261201 ∧
    s.readWord .configuration = word (32 * 2 ^ 16 + 16 * 2 ^ 8 + 6 * 2 ^ 4 + bit s.passLatched) ∧
    s.readWord .globalControl = word (bit s.globalEnable) ∧
    s.readWord .globalStatus = word (s.invQueue.length * 2 ^ 24 + s.inFlight.countP (· = .discarded) * 2 ^ 16 +
      s.inFlight.length * 2 ^ 12 + (bit (s.context 0).isSome + bit (s.context 1).isSome) * 2 ^ 8 + s.park.length) ∧
    s.readWord .programmingError = word (s.progError.offset.toNat * 2 ^ 16 + match s.progError.code with
      | .none => 0
      | .accessWidth => 1
      | .descriptorBusy => 2
      | .badCommand => 3) ∧
    s.readWord .cause = word s.causes.toNat ∧ s.readWord .causeEnable = word s.enables.toNat ∧
    s.readWord .parkTimeout = word s.parkTimeout.toNat ∧
    (∀ i : RegionId, s.readWord (.region i) = word ((match (s.regions[i]).attr with
      | .normal => 0
      | .readOnly => 1
      | .absent => 2) * 2 ^ 28 + (s.regions[i]).endFrame.toNat)) ∧
    s.readWord (.staging .zero) = word (s.staging.index.toNat * 2 ^ 16 + bit s.staging.interrupt * 2 ^ 7 +
      s.staging.aperture.val * 2 ^ 4 + s.staging.kind.toNat) ∧
    s.readWord (.staging .one) = word (s.staging.count.toNat * 2 ^ 16 + s.staging.firstPage.toNat) ∧
    (∀ n, let a := s.aperture n
      s.readWord (.descriptor n .base) = a.base ∧ s.readWord (.descriptor n .tableAddress) = a.tableAddress ∧
      s.readWord (.descriptor n .attributes) = word (a.masterMask.toNat * 2 ^ 16 + bit a.haltOnFault * 2 ^ 8 +
        bit a.posting * 2 ^ 7 + (match a.linearAccess with
          | .readWrite => 0
          | .readOnly => 1) * 2 ^ 6 + (match a.mode with
          | .walked => 0
          | .linear => 1) * 2 ^ 5 + (match a.pageSize with
          | .k4 => 0
          | .k64 => 1) * 2 ^ 4 + a.sizeCode.toNat)) ∧
    s.readWord .fenceToken = word s.fenceToken.toNat ∧
    s.readWord .queueStatus = word (s.fenceCounter * 2 ^ 16 + bit s.fenceWaiting * 2 ^ 4 + s.invQueue.length) ∧
    s.readWord .logStatus = word (bit s.overflow * 2 ^ 8 + s.log.length) ∧
    (∀ m, s.readWord (.portControl m) =
      word (([0, 1, 2, 3] : List Tag).countP (fun g => ((s.port m).tag g).isSome) * 2 ^ 8 +
        (match (s.port m).state with
          | .active => 0
          | .disabled => 1
          | .resetting => 2) * 2 ^ 4 + bit (s.port m).enable)) ∧
    (∀ n, s.readWord (.status n) = word ((s.aperture n).count * 2 ^ 16 +
      (match (s.aperture n).lastResult with
        | .none => 0
        | .opened => 1
        | .closed => 2
        | .halted => 3
        | .resumed => 4
        | .badState => 5
        | .badSize => 6
        | .baseMisaligned => 7
        | .tableMisaligned => 8
        | .frameMisaligned => 9
        | .noMasters => 10
        | .overlap => 11) * 2 ^ 4 +
      match (s.aperture n).state with
        | .closed => 0
        | .opened => 1
        | .draining => 2
        | .halted => 3))) ∧
  (∀ s : State, s.resetLow = false →
    let reads (offset : Nat) (w : WindowWord) : Prop := s.hostRead (BitVec.ofNat 10 (offset / 4)) 15 = s.readWord w
    reads 0x000 .identification ∧ reads 0x004 .configuration ∧ reads 0x008 .globalControl ∧ reads 0x00C .globalStatus ∧
    reads 0x010 .cause ∧ reads 0x014 .causeEnable ∧ reads 0x018 .parkTimeout ∧ reads 0x01C .programmingError ∧
    reads 0x020 .fenceToken ∧ (∀ i : RegionId, reads (0x030 + 4 * i.val) (.region i)) ∧
    (∀ m : Master, reads (0x040 + 4 * m.val) (.portControl m)) ∧ reads 0x060 (.staging .zero) ∧
    reads 0x064 (.staging .one) ∧ s.hostRead 26 15 = 0 ∧ reads 0x06C .queueStatus ∧
    (∀ k : Fin 4, reads (0x080 + 4 * k.val) (.faultRecord k)) ∧ s.hostRead 36 15 = 0 ∧ reads 0x094 .logStatus ∧
    (∀ n : ApertureId, reads (0x100 + 0x20 * n.val) (.descriptor n .base) ∧
      reads (0x104 + 0x20 * n.val) (.descriptor n .attributes) ∧
      reads (0x108 + 0x20 * n.val) (.descriptor n .tableAddress) ∧
      s.hostRead (BitVec.ofNat 10 (67 + 8 * n.val)) 15 = 0 ∧ reads (0x110 + 0x20 * n.val) (.status n)) ∧
    (∀ w : WordIndex,
      (let o := 4 * w.toNat
       (0x024 ≤ o ∧ o ≤ 0x02C) ∨ (0x058 ≤ o ∧ o ≤ 0x05C) ∨ (0x070 ≤ o ∧ o ≤ 0x07C) ∨ (0x098 ≤ o ∧ o ≤ 0x0FC) ∨
       (0x100 ≤ o ∧ o < 0x200 ∧ 0x14 ≤ o % 0x20) ∨ 0x200 ≤ o) → s.hostRead w 15 = 0)) ∧
  (∀ (s : State) (w : WordIndex) (lanes : BitVec 4) (i : Fin 4), (s.hostRead w lanes).extractLsb' (8 * i.val) 8 =
    if lanes.getLsbD i.val then (s.hostRead w 15).extractLsb' (8 * i.val) 8 else 0) ∧
  ∀ (v : Word) (s : State), s.resetLow = false →
    (∀ b, exec (.globalEnable b) s = .next { s with globalEnable := b }) ∧
    (∃ t, exec (.parkTimeoutWrite v) s = .next t ∧ t.readWord .parkTimeout = v &&& 0xFF ∧
      t = { s with parkTimeout := t.parkTimeout }) ∧
    (∀ i, ∃ t, exec (.regionWrite i v) s = .next t ∧
      t.readWord (.region i) =
        (if v &&& 0x1FFFFFF > 0x1000000 then 0x1000000 else v &&& 0x1FFFFFF) |||
          (if v &&& 0x30000000 = 0x30000000 then 0x20000000 else v &&& 0x30000000) ∧
      (∀ j, j ≠ i → t.readWord (.region j) = s.readWord (.region j)) ∧ t = { s with regions := t.regions }) ∧
    (∃ t, exec (.stagingWrite .zero v) s = .next t ∧ t.readWord (.staging .zero) = v &&& 0xFFFF00F7 ∧
      t.readWord (.staging .one) = s.readWord (.staging .one) ∧ t = { s with staging := t.staging }) ∧
    (∃ t, exec (.stagingWrite .one v) s = .next t ∧ t.readWord (.staging .one) = v ∧
      t.readWord (.staging .zero) = s.readWord (.staging .zero) ∧ t = { s with staging := t.staging })

/-- R168, R170, R181: a full host write is the event of the word's owner; one to a read-only word or to an unassigned offset of
section 10.1 is discarded and sets nothing. -/
def Obligations.FullWritesReachTheOwnerOfTheWord : Prop :=
  ∀ (v : Word) (s : State),
    exec (.hostWrite 2 v) s = exec (if v.getLsbD 1 then .softReset else .globalEnable (v.getLsbD 0)) s ∧
    exec (.hostWrite 4 v) s = exec (.causeClear v) s ∧ exec (.hostWrite 5 v) s = exec (.causeEnableWrite v) s ∧
    exec (.hostWrite 6 v) s = exec (.parkTimeoutWrite v) s ∧
    (∀ i : RegionId, exec (.hostWrite (BitVec.ofNat 10 (12 + i.val)) v) s = exec (.regionWrite i v) s) ∧
    (∀ m : Master, exec (.hostWrite (BitVec.ofNat 10 (16 + m.val)) v) s =
      exec (if v.getLsbD 1 then .portReset m (v.getLsbD 0) else .portEnableWrite m (v.getLsbD 0)) s) ∧
    exec (.hostWrite 24 v) s = exec (.stagingWrite .zero v) s ∧ exec (.hostWrite 25 v) s = exec (.stagingWrite .one v) s ∧
    exec (.hostWrite 26 v) s = exec (.push v) s ∧ exec (.hostWrite 36 v) s = exec (.pop v) s ∧
    (∀ n : ApertureId,
      exec (.hostWrite (BitVec.ofNat 10 (64 + 8 * n.val)) v) s = exec (.descriptorWrite n .base v) s ∧
      exec (.hostWrite (BitVec.ofNat 10 (65 + 8 * n.val)) v) s = exec (.descriptorWrite n .attributes v) s ∧
      exec (.hostWrite (BitVec.ofNat 10 (66 + 8 * n.val)) v) s = exec (.descriptorWrite n .tableAddress v) s ∧
      exec (.hostWrite (BitVec.ofNat 10 (67 + 8 * n.val)) v) s =
        exec (if v = 1 then .openAperture n else if v = 2 then .closeAperture n else if v = 3 then .haltAperture n
          else if v = 4 then .resumeAperture n else .badCommand n v) s) ∧
    (∀ w : WordIndex, s.resetLow = false →
      (let o := 4 * w.toNat
       o ∈ [0x000, 0x004, 0x00C, 0x01C, 0x020, 0x06C, 0x080, 0x084, 0x088, 0x08C, 0x094] ∨
       (0x024 ≤ o ∧ o ≤ 0x02C) ∨ (0x058 ≤ o ∧ o ≤ 0x05C) ∨ (0x070 ≤ o ∧ o ≤ 0x07C) ∨ (0x098 ≤ o ∧ o ≤ 0x0FC) ∨
       (0x100 ≤ o ∧ o < 0x200 ∧ 0x10 ≤ o % 0x20) ∨ 0x200 ≤ o) →
      exec (.hostWrite w v) s = .next s)

/-- R22, R169, R177, R181: a command word value that names no command, and a narrow write at any offset, are discarded: the
programming-error record takes BadCommand or AccessWidth with the offset of the word, ProgrammingError is set, and nothing
else changes. -/
def Obligations.DiscardedWritesAreRecorded : Prop :=
  ∀ (v : Word) (s : State), s.resetLow = false →
    (∀ n : ApertureId, v ≠ 1 → v ≠ 2 → v ≠ 3 → v ≠ 4 → exec (.badCommand n v) s = .next
      { s with causes := s.causes ||| 0x080, progError := ⟨.badCommand, BitVec.ofNat 12 (0x10C + 0x20 * n.val)⟩ }) ∧
    (∀ (w : WordIndex) (lanes : BitVec 4), lanes ≠ 0 → lanes ≠ 15 → exec (.narrowWrite w lanes v) s = .next
      { s with causes := s.causes ||| 0x080, progError := ⟨.accessWidth, BitVec.ofNat 12 (4 * w.toNat)⟩ })

/-! ## Resets -/

/-- R173, R183 and the rules they gather: a soft reset empties the queues, slots, contexts, caches, log and causes, marks every
record in flight for discard, keeps the strap, the cause enables and the FenceDone token, sets every word to its reset value,
and signals the indication on every port (in the trace in the order of the masters, log 11). -/
def Obligations.SoftResetReturnsThePartToReset : Prop :=
  ∀ s : State, s.resetLow = false → ∃ t, exec .softReset s = .next t ∧
    ResetWords s.passLatched t ∧
    t.readWord .globalStatus = BitVec.ofNat 32 (s.inFlight.length * 2 ^ 12 + s.inFlight.length * 2 ^ 16) ∧
    t.enables = s.enables ∧ t.fenceToken = s.fenceToken ∧ t.passLatched = s.passLatched ∧ t.resetLow = false ∧
    t.inFlight.length = s.inFlight.length ∧ (∀ x ∈ t.inFlight, x = .discarded) ∧
    t.park = [] ∧ (∀ c, t.context c = none) ∧ t.pageCache = [] ∧ t.dirCache = [] ∧ t.rrPointer = 5 ∧
    (∀ m, (t.queue m).reads = [] ∧ (t.queue m).writes = [] ∧ (t.port m).completions = [] ∧ ∀ g, (t.port m).tag g = none) ∧
    (∀ n, t.aperture n = if n = 0 ∧ s.passLatched = true then { Aperture.reset with
      sizeCode := 8, mode := .linear, masterMask := 63, state := .opened, lastResult := .opened } else Aperture.reset) ∧
    (∀ m, t.port m = { Port.reset with taken := (s.port m).taken }) ∧
    t = { State.reset with
      passLatched := s.passLatched, globalEnable := s.passLatched, apertures := t.apertures, ports := t.ports
      inFlight := t.inFlight, enables := s.enables, fenceToken := s.fenceToken, readySeq := s.readySeq
      trace := (allMasters.map Output.indication).reverse ++ s.trace, freeCount := s.freeCount, pending := s.pending }

/-- R26, R47, R165, R168: RESET# low puts every block at its pin reset values, keeping the strap and the arrivals that are
pending; while it is low every word reads 0, INT# is deasserted, an arrival of 1 to 8 beats on a free channel becomes its port's
pending arrival and changes nothing else, and every other command but RESET_RELEASE changes nothing (log 8). -/
def Obligations.NothingHappensWhileResetIsLow : Prop :=
  ∀ s : State,
    (∃ t, exec .pinReset s = .next t ∧ t.resetLow = true ∧ t = { State.reset with
        resetLow := true, passLatched := s.passLatched, ports := t.ports, readySeq := s.readySeq, trace := s.trace
        freeCount := s.freeCount, pending := s.pending } ∧
      ∀ m, t.port m = { Port.reset with taken := (s.port m).taken, pendingArrival := (s.port m).pendingArrival }) ∧
    (s.resetLow = true → (∀ w lanes, s.hostRead w lanes = 0) ∧ s.intAsserted = false ∧
      (∀ (m : Master) (r : Request),
        let waiting : State := s.setPort m { s.port m with pendingArrival := some r }
        (1 ≤ r.length → r.length ≤ 8 → (s.port m).pendingArrival = none → exec (.arrival m r) s = .next waiting) ∧
        ∀ t, exec (.arrival m r) s = .next t → t = waiting) ∧
      ∀ c : Instr, c ≠ .pinReset → (∀ p o, c ≠ .resetRelease p o) → (∀ m r, c ≠ .arrival m r) →
        (∀ w v, c ≠ .narrowWrite w 0 v) → exec c s = .next s)

/-- R26, R28, R45, R47, R48, R54, R68, R107, R108, R127, R137, R183: at the release PASS is latched, A0 and the global Enable
take their strap values, every other part of the state has its value after pin reset, every word reads its reset value, and
every port signals the indication (in the trace in the order of the masters, log 11; the model's own numberings and trace go on,
logs 6, 11, 12). A request that waited through RESET# is then judged as the first arrival after reset, whatever the strap: the
release answers what its ARRIVAL answers in the state that the release leaves with the channel free; under a low strap that is
the refusal Disabled. Several that waited are judged one after another in the order that the command names (log 10). -/
def Obligations.ReleaseLatchesTheStrap : Prop :=
  ∀ (s : State) (pass : Bool) (order : List Master), s.resetLow = true →
    ((∀ m, (s.port m).pendingArrival = none) → ∃ t, exec (.resetRelease pass order) s = .next t ∧
      ResetWords pass t ∧ t.readWord .globalStatus = 0 ∧ t.readWord .causeEnable = 0 ∧ t.readWord .fenceToken = 0 ∧
      (∀ n, t.aperture n = if n = 0 ∧ pass = true then { Aperture.reset with
        sizeCode := 8, mode := .linear, masterMask := 63, state := .opened, lastResult := .opened } else Aperture.reset) ∧
      (∀ m, t.port m = { Port.reset with taken := (s.port m).taken }) ∧
      t = { State.reset with
        passLatched := pass, globalEnable := pass, apertures := t.apertures, ports := t.ports, readySeq := s.readySeq
        trace := (allMasters.map Output.indication).reverse ++ s.trace, freeCount := s.freeCount, pending := s.pending }) ∧
    (∀ m r, (s.port m).pendingArrival = some r → (∀ o, o ≠ m → (s.port o).pendingArrival = none) →
      (1 ≤ r.length → r.length ≤ 8 → ∃ u,
        exec (.resetRelease pass order) (s.setPort m { s.port m with pendingArrival := none }) = .next u ∧
        exec (.resetRelease pass order) s = exec (.arrival m r) u) ∧
      (pass = false → ∃ t, exec (.resetRelease pass order) s = .next t ∧
        t.trace = .answer m r.tag (.refuse .disabled) ::
          ((allMasters.map Output.indication).reverse ++ s.trace))) ∧
    (∀ waited : List (Master × Request), order = waited.map (·.1) → order.Nodup →
      (∀ x ∈ waited, (s.port x.1).pendingArrival = some x.2 ∧ 1 ≤ x.2.length ∧ x.2.length ≤ 8) →
      (∀ m, m ∉ order → (s.port m).pendingArrival = none) →
      ∃ u, exec (.resetRelease pass order)
          { s with ports := mapSix (fun p => { p with pendingArrival := none }) s.ports } = .next u ∧
        exec (.resetRelease pass order) s = waited.foldl (fun v x => match v with
          | .next t => exec (.arrival x.1 x.2) t
          | .fault f => .fault f
          | .refused why => .refused why) (.next u))
end

