-- ==== Sys2Proof/Laws/State.lean ====
section
/-! SUPPORT. The small lemmas of the accessors and updates of State: what each update leaves, and what is read back. -/

namespace Sys2Proof.Machine

/-- `setAperture` changes nothing but `apertures`. -/
@[simp] theorem State.setAperture_frame (s : State) (n : ApertureId) (a : Aperture) :
    (s.setAperture n a).resetLow = s.resetLow ∧ (s.setAperture n a).passLatched = s.passLatched
      ∧ (s.setAperture n a).ports = s.ports ∧ (s.setAperture n a).queues = s.queues
      ∧ (s.setAperture n a).pageCache = s.pageCache ∧ (s.setAperture n a).dirCache = s.dirCache
      ∧ (s.setAperture n a).regions = s.regions ∧ (s.setAperture n a).contexts = s.contexts
      ∧ (s.setAperture n a).readySeq = s.readySeq ∧ (s.setAperture n a).park = s.park
      ∧ (s.setAperture n a).inFlight = s.inFlight ∧ (s.setAperture n a).rrPointer = s.rrPointer
      ∧ (s.setAperture n a).staging = s.staging ∧ (s.setAperture n a).invQueue = s.invQueue
      ∧ (s.setAperture n a).fenceWaiting = s.fenceWaiting ∧ (s.setAperture n a).fenceCounter = s.fenceCounter
      ∧ (s.setAperture n a).fenceToken = s.fenceToken ∧ (s.setAperture n a).log = s.log
      ∧ (s.setAperture n a).overflow = s.overflow ∧ (s.setAperture n a).causes = s.causes
      ∧ (s.setAperture n a).enables = s.enables ∧ (s.setAperture n a).globalEnable = s.globalEnable
      ∧ (s.setAperture n a).parkTimeout = s.parkTimeout ∧ (s.setAperture n a).progError = s.progError
      ∧ (s.setAperture n a).trace = s.trace ∧ (s.setAperture n a).freeCount = s.freeCount
      ∧ (s.setAperture n a).pending = s.pending := by
  simp [State.setAperture]

/-- `setPort` changes nothing but `ports`. -/
@[simp] theorem State.setPort_frame (s : State) (m : Master) (p : Port) :
    (s.setPort m p).resetLow = s.resetLow ∧ (s.setPort m p).passLatched = s.passLatched
      ∧ (s.setPort m p).apertures = s.apertures ∧ (s.setPort m p).queues = s.queues
      ∧ (s.setPort m p).pageCache = s.pageCache ∧ (s.setPort m p).dirCache = s.dirCache
      ∧ (s.setPort m p).regions = s.regions ∧ (s.setPort m p).contexts = s.contexts
      ∧ (s.setPort m p).readySeq = s.readySeq ∧ (s.setPort m p).park = s.park ∧ (s.setPort m p).inFlight = s.inFlight
      ∧ (s.setPort m p).rrPointer = s.rrPointer ∧ (s.setPort m p).staging = s.staging
      ∧ (s.setPort m p).invQueue = s.invQueue ∧ (s.setPort m p).fenceWaiting = s.fenceWaiting
      ∧ (s.setPort m p).fenceCounter = s.fenceCounter ∧ (s.setPort m p).fenceToken = s.fenceToken
      ∧ (s.setPort m p).log = s.log ∧ (s.setPort m p).overflow = s.overflow ∧ (s.setPort m p).causes = s.causes
      ∧ (s.setPort m p).enables = s.enables ∧ (s.setPort m p).globalEnable = s.globalEnable
      ∧ (s.setPort m p).parkTimeout = s.parkTimeout ∧ (s.setPort m p).progError = s.progError
      ∧ (s.setPort m p).trace = s.trace ∧ (s.setPort m p).freeCount = s.freeCount
      ∧ (s.setPort m p).pending = s.pending := by
  simp [State.setPort]

/-- `setQueue` changes nothing but `queues`. -/
@[simp] theorem State.setQueue_frame (s : State) (m : Master) (q : IssueQueues) :
    (s.setQueue m q).resetLow = s.resetLow ∧ (s.setQueue m q).passLatched = s.passLatched
      ∧ (s.setQueue m q).apertures = s.apertures ∧ (s.setQueue m q).ports = s.ports
      ∧ (s.setQueue m q).pageCache = s.pageCache ∧ (s.setQueue m q).dirCache = s.dirCache
      ∧ (s.setQueue m q).regions = s.regions ∧ (s.setQueue m q).contexts = s.contexts
      ∧ (s.setQueue m q).readySeq = s.readySeq ∧ (s.setQueue m q).park = s.park
      ∧ (s.setQueue m q).inFlight = s.inFlight ∧ (s.setQueue m q).rrPointer = s.rrPointer
      ∧ (s.setQueue m q).staging = s.staging ∧ (s.setQueue m q).invQueue = s.invQueue
      ∧ (s.setQueue m q).fenceWaiting = s.fenceWaiting ∧ (s.setQueue m q).fenceCounter = s.fenceCounter
      ∧ (s.setQueue m q).fenceToken = s.fenceToken ∧ (s.setQueue m q).log = s.log
      ∧ (s.setQueue m q).overflow = s.overflow ∧ (s.setQueue m q).causes = s.causes
      ∧ (s.setQueue m q).enables = s.enables ∧ (s.setQueue m q).globalEnable = s.globalEnable
      ∧ (s.setQueue m q).parkTimeout = s.parkTimeout ∧ (s.setQueue m q).progError = s.progError
      ∧ (s.setQueue m q).trace = s.trace ∧ (s.setQueue m q).freeCount = s.freeCount
      ∧ (s.setQueue m q).pending = s.pending := by
  simp [State.setQueue]

/-- `setContext` changes nothing but `contexts`. -/
@[simp] theorem State.setContext_frame (s : State) (c : ContextId) (w : Option Walk) :
    (s.setContext c w).resetLow = s.resetLow ∧ (s.setContext c w).passLatched = s.passLatched
      ∧ (s.setContext c w).apertures = s.apertures ∧ (s.setContext c w).ports = s.ports
      ∧ (s.setContext c w).queues = s.queues ∧ (s.setContext c w).pageCache = s.pageCache
      ∧ (s.setContext c w).dirCache = s.dirCache ∧ (s.setContext c w).regions = s.regions
      ∧ (s.setContext c w).readySeq = s.readySeq ∧ (s.setContext c w).park = s.park
      ∧ (s.setContext c w).inFlight = s.inFlight ∧ (s.setContext c w).rrPointer = s.rrPointer
      ∧ (s.setContext c w).staging = s.staging ∧ (s.setContext c w).invQueue = s.invQueue
      ∧ (s.setContext c w).fenceWaiting = s.fenceWaiting ∧ (s.setContext c w).fenceCounter = s.fenceCounter
      ∧ (s.setContext c w).fenceToken = s.fenceToken ∧ (s.setContext c w).log = s.log
      ∧ (s.setContext c w).overflow = s.overflow ∧ (s.setContext c w).causes = s.causes
      ∧ (s.setContext c w).enables = s.enables ∧ (s.setContext c w).globalEnable = s.globalEnable
      ∧ (s.setContext c w).parkTimeout = s.parkTimeout ∧ (s.setContext c w).progError = s.progError
      ∧ (s.setContext c w).trace = s.trace ∧ (s.setContext c w).freeCount = s.freeCount
      ∧ (s.setContext c w).pending = s.pending := by
  simp [State.setContext]

/-- Reading back what `setAperture` stored. -/
@[simp] theorem State.aperture_setAperture (s : State) (n j : ApertureId) (a : Aperture) :
    (s.setAperture n a).aperture j = if j = n then a else s.aperture j := by
  simp [State.aperture, State.setAperture, Vector.getElem_set, Fin.ext_iff, eq_comm]

@[simp] theorem State.aperture_setPort (s : State) (m : Master) (p : Port) (j : ApertureId) :
    (s.setPort m p).aperture j = s.aperture j := rfl

@[simp] theorem State.aperture_setQueue (s : State) (m : Master) (q : IssueQueues) (j : ApertureId) :
    (s.setQueue m q).aperture j = s.aperture j := rfl

@[simp] theorem State.aperture_setContext (s : State) (c : ContextId) (w : Option Walk) (j : ApertureId) :
    (s.setContext c w).aperture j = s.aperture j := rfl

/-- Reading back what `setPort` stored. -/
@[simp] theorem State.port_setPort (s : State) (m j : Master) (p : Port) :
    (s.setPort m p).port j = if j = m then p else s.port j := by
  simp [State.port, State.setPort, Vector.getElem_set, Fin.ext_iff, eq_comm]

@[simp] theorem State.port_setAperture (s : State) (n : ApertureId) (a : Aperture) (j : Master) :
    (s.setAperture n a).port j = s.port j := rfl

@[simp] theorem State.port_setQueue (s : State) (m : Master) (q : IssueQueues) (j : Master) :
    (s.setQueue m q).port j = s.port j := rfl

@[simp] theorem State.port_setContext (s : State) (c : ContextId) (w : Option Walk) (j : Master) :
    (s.setContext c w).port j = s.port j := rfl

/-- Reading back what `setQueue` stored. -/
@[simp] theorem State.queue_setQueue (s : State) (m j : Master) (q : IssueQueues) :
    (s.setQueue m q).queue j = if j = m then q else s.queue j := by
  simp [State.queue, State.setQueue, Vector.getElem_set, Fin.ext_iff, eq_comm]

@[simp] theorem State.queue_setAperture (s : State) (n : ApertureId) (a : Aperture) (j : Master) :
    (s.setAperture n a).queue j = s.queue j := rfl

@[simp] theorem State.queue_setPort (s : State) (m : Master) (p : Port) (j : Master) :
    (s.setPort m p).queue j = s.queue j := rfl

@[simp] theorem State.queue_setContext (s : State) (c : ContextId) (w : Option Walk) (j : Master) :
    (s.setContext c w).queue j = s.queue j := rfl

/-- Reading back what `setContext` stored. -/
@[simp] theorem State.context_setContext (s : State) (c j : ContextId) (w : Option Walk) :
    (s.setContext c w).context j = if j = c then w else s.context j := by
  simp [State.context, State.setContext, Vector.getElem_set, Fin.ext_iff, eq_comm]

@[simp] theorem State.context_setAperture (s : State) (n : ApertureId) (a : Aperture) (j : ContextId) :
    (s.setAperture n a).context j = s.context j := rfl

@[simp] theorem State.context_setPort (s : State) (m : Master) (p : Port) (j : ContextId) :
    (s.setPort m p).context j = s.context j := rfl

@[simp] theorem State.context_setQueue (s : State) (m : Master) (q : IssueQueues) (j : ContextId) :
    (s.setQueue m q).context j = s.context j := rfl

/-- A tag entry after an update. -/
@[simp] theorem Port.tag_setTag (p : Port) (t u : Tag) (k : Option AccessKind) :
    (p.setTag t k).tag u = if u = t then k else p.tag u := by
  simp [Port.tag, Port.setTag, Vector.getElem_set, Fin.ext_iff, eq_comm]

/-- Each element of a mapped sixfold. -/
@[simp] theorem getElem_mapSix {α β : Type} (f : α → β) (v : Vector α 6) (m : Master) : (mapSix f v)[m] = f v[m] := by
  obtain ⟨m, h⟩ := m
  rcases m with _ | _ | _ | _ | _ | _ | m
  all_goals first | rfl | omega

end Sys2Proof.Machine
end

