-- ==== Sys2Proof/Laws/Frames.lean ====
section
/-! SUPPORT. The frame of every shared operation: the fields it leaves as they were. Each lemma is stated for all those
fields together, and simp uses its parts one by one. -/

namespace Sys2Proof.Machine

@[simp] theorem setCause_frame (c : Cause) (s : State) :
    (setCause c s).resetLow = s.resetLow ∧ (setCause c s).passLatched = s.passLatched
      ∧ (setCause c s).apertures = s.apertures ∧ (setCause c s).ports = s.ports ∧ (setCause c s).queues = s.queues
      ∧ (setCause c s).pageCache = s.pageCache ∧ (setCause c s).dirCache = s.dirCache
      ∧ (setCause c s).regions = s.regions ∧ (setCause c s).contexts = s.contexts
      ∧ (setCause c s).readySeq = s.readySeq ∧ (setCause c s).park = s.park ∧ (setCause c s).inFlight = s.inFlight
      ∧ (setCause c s).rrPointer = s.rrPointer ∧ (setCause c s).staging = s.staging
      ∧ (setCause c s).invQueue = s.invQueue ∧ (setCause c s).fenceWaiting = s.fenceWaiting
      ∧ (setCause c s).fenceCounter = s.fenceCounter ∧ (setCause c s).fenceToken = s.fenceToken
      ∧ (setCause c s).log = s.log ∧ (setCause c s).overflow = s.overflow ∧ (setCause c s).enables = s.enables
      ∧ (setCause c s).globalEnable = s.globalEnable ∧ (setCause c s).parkTimeout = s.parkTimeout
      ∧ (setCause c s).progError = s.progError ∧ (setCause c s).trace = s.trace
      ∧ (setCause c s).freeCount = s.freeCount ∧ (setCause c s).pending = s.pending := by
  simp [setCause]

@[simp] theorem setCause_accessors (c : Cause) (s : State) :
    (∀ j, (setCause c s).aperture j = s.aperture j)
      ∧ (∀ j, (setCause c s).port j = s.port j)
      ∧ (∀ j, (setCause c s).queue j = s.queue j)
      ∧ (∀ j, (setCause c s).context j = s.context j) := by
  simp [State.aperture, State.port, State.queue, State.context]

@[simp] theorem emit_frame (o : Output) (s : State) :
    (emit o s).resetLow = s.resetLow ∧ (emit o s).passLatched = s.passLatched ∧ (emit o s).apertures = s.apertures
      ∧ (emit o s).ports = s.ports ∧ (emit o s).queues = s.queues ∧ (emit o s).pageCache = s.pageCache
      ∧ (emit o s).dirCache = s.dirCache ∧ (emit o s).regions = s.regions ∧ (emit o s).contexts = s.contexts
      ∧ (emit o s).readySeq = s.readySeq ∧ (emit o s).park = s.park ∧ (emit o s).inFlight = s.inFlight
      ∧ (emit o s).rrPointer = s.rrPointer ∧ (emit o s).staging = s.staging ∧ (emit o s).invQueue = s.invQueue
      ∧ (emit o s).fenceWaiting = s.fenceWaiting ∧ (emit o s).fenceCounter = s.fenceCounter
      ∧ (emit o s).fenceToken = s.fenceToken ∧ (emit o s).log = s.log ∧ (emit o s).overflow = s.overflow
      ∧ (emit o s).causes = s.causes ∧ (emit o s).enables = s.enables ∧ (emit o s).globalEnable = s.globalEnable
      ∧ (emit o s).parkTimeout = s.parkTimeout ∧ (emit o s).progError = s.progError
      ∧ (emit o s).freeCount = s.freeCount ∧ (emit o s).pending = s.pending := by
  simp [emit]

@[simp] theorem emit_accessors (o : Output) (s : State) :
    (∀ j, (emit o s).aperture j = s.aperture j)
      ∧ (∀ j, (emit o s).port j = s.port j)
      ∧ (∀ j, (emit o s).queue j = s.queue j)
      ∧ (∀ j, (emit o s).context j = s.context j) := by
  simp [State.aperture, State.port, State.queue, State.context]

@[simp] theorem report_frame (r : FaultRecord) (s : State) :
    (report r s).resetLow = s.resetLow ∧ (report r s).passLatched = s.passLatched
      ∧ (report r s).apertures = s.apertures ∧ (report r s).ports = s.ports ∧ (report r s).queues = s.queues
      ∧ (report r s).pageCache = s.pageCache ∧ (report r s).dirCache = s.dirCache ∧ (report r s).regions = s.regions
      ∧ (report r s).contexts = s.contexts ∧ (report r s).readySeq = s.readySeq ∧ (report r s).park = s.park
      ∧ (report r s).inFlight = s.inFlight ∧ (report r s).rrPointer = s.rrPointer ∧ (report r s).staging = s.staging
      ∧ (report r s).invQueue = s.invQueue ∧ (report r s).fenceWaiting = s.fenceWaiting
      ∧ (report r s).fenceCounter = s.fenceCounter ∧ (report r s).fenceToken = s.fenceToken
      ∧ (report r s).enables = s.enables ∧ (report r s).globalEnable = s.globalEnable
      ∧ (report r s).parkTimeout = s.parkTimeout ∧ (report r s).progError = s.progError ∧ (report r s).trace = s.trace
      ∧ (report r s).freeCount = s.freeCount ∧ (report r s).pending = s.pending := by
  unfold report
  split
  · simp
  · split <;> simp

@[simp] theorem report_accessors (r : FaultRecord) (s : State) :
    (∀ j, (report r s).aperture j = s.aperture j)
      ∧ (∀ j, (report r s).port j = s.port j)
      ∧ (∀ j, (report r s).queue j = s.queue j)
      ∧ (∀ j, (report r s).context j = s.context j) := by
  simp [State.aperture, State.port, State.queue, State.context]

@[simp] theorem recordFrame_frame (f : Nat) (s : State) :
    ((recordFrame f s).2).resetLow = s.resetLow ∧ ((recordFrame f s).2).passLatched = s.passLatched
      ∧ ((recordFrame f s).2).apertures = s.apertures ∧ ((recordFrame f s).2).ports = s.ports
      ∧ ((recordFrame f s).2).queues = s.queues ∧ ((recordFrame f s).2).pageCache = s.pageCache
      ∧ ((recordFrame f s).2).dirCache = s.dirCache ∧ ((recordFrame f s).2).regions = s.regions
      ∧ ((recordFrame f s).2).contexts = s.contexts ∧ ((recordFrame f s).2).readySeq = s.readySeq
      ∧ ((recordFrame f s).2).park = s.park ∧ ((recordFrame f s).2).inFlight = s.inFlight
      ∧ ((recordFrame f s).2).rrPointer = s.rrPointer ∧ ((recordFrame f s).2).staging = s.staging
      ∧ ((recordFrame f s).2).invQueue = s.invQueue ∧ ((recordFrame f s).2).fenceWaiting = s.fenceWaiting
      ∧ ((recordFrame f s).2).fenceCounter = s.fenceCounter ∧ ((recordFrame f s).2).fenceToken = s.fenceToken
      ∧ ((recordFrame f s).2).log = s.log ∧ ((recordFrame f s).2).overflow = s.overflow
      ∧ ((recordFrame f s).2).causes = s.causes ∧ ((recordFrame f s).2).enables = s.enables
      ∧ ((recordFrame f s).2).globalEnable = s.globalEnable ∧ ((recordFrame f s).2).parkTimeout = s.parkTimeout
      ∧ ((recordFrame f s).2).progError = s.progError ∧ ((recordFrame f s).2).trace = s.trace
      ∧ ((recordFrame f s).2).pending = s.pending := by
  unfold recordFrame
  split <;> simp

@[simp] theorem recordFrame_accessors (f : Nat) (s : State) :
    (∀ j, ((recordFrame f s).2).aperture j = s.aperture j)
      ∧ (∀ j, ((recordFrame f s).2).port j = s.port j)
      ∧ (∀ j, ((recordFrame f s).2).queue j = s.queue j)
      ∧ (∀ j, ((recordFrame f s).2).context j = s.context j) := by
  simp [State.aperture, State.port, State.queue, State.context]

@[simp] theorem reportCheck_frame (k : TransFault) (m : Master) (t : Tag) (n : ApertureId) (kind : AccessKind) (addr : Word)
    (f : Nat) (s : State) :
    (reportCheck k m t n kind addr f s).resetLow = s.resetLow
      ∧ (reportCheck k m t n kind addr f s).passLatched = s.passLatched
      ∧ (reportCheck k m t n kind addr f s).apertures = s.apertures
      ∧ (reportCheck k m t n kind addr f s).ports = s.ports ∧ (reportCheck k m t n kind addr f s).queues = s.queues
      ∧ (reportCheck k m t n kind addr f s).pageCache = s.pageCache
      ∧ (reportCheck k m t n kind addr f s).dirCache = s.dirCache
      ∧ (reportCheck k m t n kind addr f s).regions = s.regions
      ∧ (reportCheck k m t n kind addr f s).contexts = s.contexts
      ∧ (reportCheck k m t n kind addr f s).readySeq = s.readySeq ∧ (reportCheck k m t n kind addr f s).park = s.park
      ∧ (reportCheck k m t n kind addr f s).inFlight = s.inFlight
      ∧ (reportCheck k m t n kind addr f s).rrPointer = s.rrPointer
      ∧ (reportCheck k m t n kind addr f s).staging = s.staging
      ∧ (reportCheck k m t n kind addr f s).invQueue = s.invQueue
      ∧ (reportCheck k m t n kind addr f s).fenceWaiting = s.fenceWaiting
      ∧ (reportCheck k m t n kind addr f s).fenceCounter = s.fenceCounter
      ∧ (reportCheck k m t n kind addr f s).fenceToken = s.fenceToken
      ∧ (reportCheck k m t n kind addr f s).enables = s.enables
      ∧ (reportCheck k m t n kind addr f s).globalEnable = s.globalEnable
      ∧ (reportCheck k m t n kind addr f s).parkTimeout = s.parkTimeout
      ∧ (reportCheck k m t n kind addr f s).progError = s.progError
      ∧ (reportCheck k m t n kind addr f s).trace = s.trace ∧ (reportCheck k m t n kind addr f s).pending = s.pending := by
  unfold reportCheck
  split <;> simp

@[simp] theorem reportCheck_accessors (k : TransFault) (m : Master) (t : Tag) (n : ApertureId) (kind : AccessKind) (addr : Word)
    (f : Nat) (s : State) :
    (∀ j, (reportCheck k m t n kind addr f s).aperture j = s.aperture j)
      ∧ (∀ j, (reportCheck k m t n kind addr f s).port j = s.port j)
      ∧ (∀ j, (reportCheck k m t n kind addr f s).queue j = s.queue j)
      ∧ (∀ j, (reportCheck k m t n kind addr f s).context j = s.context j) := by
  simp [State.aperture, State.port, State.queue, State.context]

@[simp] theorem haltOnFault_frame (n : ApertureId) (s : State) :
    (haltOnFault n s).resetLow = s.resetLow ∧ (haltOnFault n s).passLatched = s.passLatched
      ∧ (haltOnFault n s).ports = s.ports ∧ (haltOnFault n s).queues = s.queues
      ∧ (haltOnFault n s).pageCache = s.pageCache ∧ (haltOnFault n s).dirCache = s.dirCache
      ∧ (haltOnFault n s).regions = s.regions ∧ (haltOnFault n s).contexts = s.contexts
      ∧ (haltOnFault n s).readySeq = s.readySeq ∧ (haltOnFault n s).park = s.park
      ∧ (haltOnFault n s).inFlight = s.inFlight ∧ (haltOnFault n s).rrPointer = s.rrPointer
      ∧ (haltOnFault n s).staging = s.staging ∧ (haltOnFault n s).invQueue = s.invQueue
      ∧ (haltOnFault n s).fenceWaiting = s.fenceWaiting ∧ (haltOnFault n s).fenceCounter = s.fenceCounter
      ∧ (haltOnFault n s).fenceToken = s.fenceToken ∧ (haltOnFault n s).log = s.log
      ∧ (haltOnFault n s).overflow = s.overflow ∧ (haltOnFault n s).enables = s.enables
      ∧ (haltOnFault n s).globalEnable = s.globalEnable ∧ (haltOnFault n s).parkTimeout = s.parkTimeout
      ∧ (haltOnFault n s).progError = s.progError ∧ (haltOnFault n s).trace = s.trace
      ∧ (haltOnFault n s).freeCount = s.freeCount ∧ (haltOnFault n s).pending = s.pending := by
  unfold haltOnFault
  dsimp only
  split <;> simp

@[simp] theorem haltOnFault_accessors (n : ApertureId) (s : State) :
    (∀ j, (haltOnFault n s).port j = s.port j)
      ∧ (∀ j, (haltOnFault n s).queue j = s.queue j)
      ∧ (∀ j, (haltOnFault n s).context j = s.context j) := by
  simp [State.port, State.queue, State.context]

@[simp] theorem pushCompletion_frame (m : Master) (c : Completion) (s : State) :
    (pushCompletion m c s).resetLow = s.resetLow ∧ (pushCompletion m c s).passLatched = s.passLatched
      ∧ (pushCompletion m c s).apertures = s.apertures ∧ (pushCompletion m c s).queues = s.queues
      ∧ (pushCompletion m c s).pageCache = s.pageCache ∧ (pushCompletion m c s).dirCache = s.dirCache
      ∧ (pushCompletion m c s).regions = s.regions ∧ (pushCompletion m c s).contexts = s.contexts
      ∧ (pushCompletion m c s).readySeq = s.readySeq ∧ (pushCompletion m c s).park = s.park
      ∧ (pushCompletion m c s).inFlight = s.inFlight ∧ (pushCompletion m c s).rrPointer = s.rrPointer
      ∧ (pushCompletion m c s).staging = s.staging ∧ (pushCompletion m c s).invQueue = s.invQueue
      ∧ (pushCompletion m c s).fenceWaiting = s.fenceWaiting ∧ (pushCompletion m c s).fenceCounter = s.fenceCounter
      ∧ (pushCompletion m c s).fenceToken = s.fenceToken ∧ (pushCompletion m c s).log = s.log
      ∧ (pushCompletion m c s).overflow = s.overflow ∧ (pushCompletion m c s).causes = s.causes
      ∧ (pushCompletion m c s).enables = s.enables ∧ (pushCompletion m c s).globalEnable = s.globalEnable
      ∧ (pushCompletion m c s).parkTimeout = s.parkTimeout ∧ (pushCompletion m c s).progError = s.progError
      ∧ (pushCompletion m c s).trace = s.trace ∧ (pushCompletion m c s).freeCount = s.freeCount
      ∧ (pushCompletion m c s).pending = s.pending := by
  unfold pushCompletion
  dsimp only
  split <;> simp

@[simp] theorem pushCompletion_accessors (m : Master) (c : Completion) (s : State) :
    (∀ j, (pushCompletion m c s).aperture j = s.aperture j)
      ∧ (∀ j, (pushCompletion m c s).queue j = s.queue j)
      ∧ (∀ j, (pushCompletion m c s).context j = s.context j) := by
  simp [State.aperture, State.queue, State.context]

@[simp] theorem closeNow_frame (n : ApertureId) (s : State) :
    (closeNow n s).resetLow = s.resetLow ∧ (closeNow n s).passLatched = s.passLatched ∧ (closeNow n s).ports = s.ports
      ∧ (closeNow n s).queues = s.queues ∧ (closeNow n s).regions = s.regions ∧ (closeNow n s).contexts = s.contexts
      ∧ (closeNow n s).readySeq = s.readySeq ∧ (closeNow n s).park = s.park ∧ (closeNow n s).inFlight = s.inFlight
      ∧ (closeNow n s).rrPointer = s.rrPointer ∧ (closeNow n s).staging = s.staging
      ∧ (closeNow n s).invQueue = s.invQueue ∧ (closeNow n s).fenceWaiting = s.fenceWaiting
      ∧ (closeNow n s).fenceCounter = s.fenceCounter ∧ (closeNow n s).fenceToken = s.fenceToken
      ∧ (closeNow n s).log = s.log ∧ (closeNow n s).overflow = s.overflow ∧ (closeNow n s).enables = s.enables
      ∧ (closeNow n s).globalEnable = s.globalEnable ∧ (closeNow n s).parkTimeout = s.parkTimeout
      ∧ (closeNow n s).progError = s.progError ∧ (closeNow n s).trace = s.trace
      ∧ (closeNow n s).freeCount = s.freeCount ∧ (closeNow n s).pending = s.pending := by
  simp [closeNow]

@[simp] theorem closeNow_accessors (n : ApertureId) (s : State) :
    (∀ j, (closeNow n s).port j = s.port j)
      ∧ (∀ j, (closeNow n s).queue j = s.queue j)
      ∧ (∀ j, (closeNow n s).context j = s.context j) := by
  simp [State.port, State.queue, State.context]

@[simp] theorem drainTest_frame (n : ApertureId) (s : State) :
    (drainTest n s).resetLow = s.resetLow ∧ (drainTest n s).passLatched = s.passLatched
      ∧ (drainTest n s).ports = s.ports ∧ (drainTest n s).queues = s.queues ∧ (drainTest n s).regions = s.regions
      ∧ (drainTest n s).contexts = s.contexts ∧ (drainTest n s).readySeq = s.readySeq ∧ (drainTest n s).park = s.park
      ∧ (drainTest n s).inFlight = s.inFlight ∧ (drainTest n s).rrPointer = s.rrPointer
      ∧ (drainTest n s).staging = s.staging ∧ (drainTest n s).invQueue = s.invQueue
      ∧ (drainTest n s).fenceWaiting = s.fenceWaiting ∧ (drainTest n s).fenceCounter = s.fenceCounter
      ∧ (drainTest n s).fenceToken = s.fenceToken ∧ (drainTest n s).log = s.log
      ∧ (drainTest n s).overflow = s.overflow ∧ (drainTest n s).enables = s.enables
      ∧ (drainTest n s).globalEnable = s.globalEnable ∧ (drainTest n s).parkTimeout = s.parkTimeout
      ∧ (drainTest n s).progError = s.progError ∧ (drainTest n s).trace = s.trace
      ∧ (drainTest n s).freeCount = s.freeCount ∧ (drainTest n s).pending = s.pending := by
  unfold drainTest
  split <;> simp

@[simp] theorem drainTest_accessors (n : ApertureId) (s : State) :
    (∀ j, (drainTest n s).port j = s.port j)
      ∧ (∀ j, (drainTest n s).queue j = s.queue j)
      ∧ (∀ j, (drainTest n s).context j = s.context j) := by
  simp [State.port, State.queue, State.context]

@[simp] theorem lowerCount_frame (n : ApertureId) (s : State) :
    (lowerCount n s).resetLow = s.resetLow ∧ (lowerCount n s).passLatched = s.passLatched
      ∧ (lowerCount n s).ports = s.ports ∧ (lowerCount n s).queues = s.queues
      ∧ (lowerCount n s).pageCache = s.pageCache ∧ (lowerCount n s).dirCache = s.dirCache
      ∧ (lowerCount n s).regions = s.regions ∧ (lowerCount n s).contexts = s.contexts
      ∧ (lowerCount n s).readySeq = s.readySeq ∧ (lowerCount n s).park = s.park
      ∧ (lowerCount n s).inFlight = s.inFlight ∧ (lowerCount n s).rrPointer = s.rrPointer
      ∧ (lowerCount n s).staging = s.staging ∧ (lowerCount n s).invQueue = s.invQueue
      ∧ (lowerCount n s).fenceWaiting = s.fenceWaiting ∧ (lowerCount n s).fenceCounter = s.fenceCounter
      ∧ (lowerCount n s).fenceToken = s.fenceToken ∧ (lowerCount n s).log = s.log
      ∧ (lowerCount n s).overflow = s.overflow ∧ (lowerCount n s).causes = s.causes
      ∧ (lowerCount n s).enables = s.enables ∧ (lowerCount n s).globalEnable = s.globalEnable
      ∧ (lowerCount n s).parkTimeout = s.parkTimeout ∧ (lowerCount n s).progError = s.progError
      ∧ (lowerCount n s).trace = s.trace ∧ (lowerCount n s).freeCount = s.freeCount
      ∧ (lowerCount n s).pending = s.pending := by
  simp [lowerCount]

@[simp] theorem lowerCount_accessors (n : ApertureId) (s : State) :
    (∀ j, (lowerCount n s).port j = s.port j)
      ∧ (∀ j, (lowerCount n s).queue j = s.queue j)
      ∧ (∀ j, (lowerCount n s).context j = s.context j) := by
  simp [State.port, State.queue, State.context]

@[simp] theorem retire_frame (n : ApertureId) (s : State) :
    (retire n s).resetLow = s.resetLow ∧ (retire n s).passLatched = s.passLatched ∧ (retire n s).ports = s.ports
      ∧ (retire n s).queues = s.queues ∧ (retire n s).regions = s.regions ∧ (retire n s).contexts = s.contexts
      ∧ (retire n s).readySeq = s.readySeq ∧ (retire n s).park = s.park ∧ (retire n s).inFlight = s.inFlight
      ∧ (retire n s).rrPointer = s.rrPointer ∧ (retire n s).staging = s.staging ∧ (retire n s).invQueue = s.invQueue
      ∧ (retire n s).fenceWaiting = s.fenceWaiting ∧ (retire n s).fenceCounter = s.fenceCounter
      ∧ (retire n s).fenceToken = s.fenceToken ∧ (retire n s).log = s.log ∧ (retire n s).overflow = s.overflow
      ∧ (retire n s).enables = s.enables ∧ (retire n s).globalEnable = s.globalEnable
      ∧ (retire n s).parkTimeout = s.parkTimeout ∧ (retire n s).progError = s.progError ∧ (retire n s).trace = s.trace
      ∧ (retire n s).freeCount = s.freeCount ∧ (retire n s).pending = s.pending := by
  simp [retire]

@[simp] theorem retire_accessors (n : ApertureId) (s : State) :
    (∀ j, (retire n s).port j = s.port j)
      ∧ (∀ j, (retire n s).queue j = s.queue j)
      ∧ (∀ j, (retire n s).context j = s.context j) := by
  simp [State.port, State.queue, State.context]

@[simp] theorem freeSlot_frame (k : SlotId) (s : State) :
    (freeSlot k s).resetLow = s.resetLow ∧ (freeSlot k s).passLatched = s.passLatched
      ∧ (freeSlot k s).apertures = s.apertures ∧ (freeSlot k s).ports = s.ports ∧ (freeSlot k s).queues = s.queues
      ∧ (freeSlot k s).pageCache = s.pageCache ∧ (freeSlot k s).dirCache = s.dirCache
      ∧ (freeSlot k s).regions = s.regions ∧ (freeSlot k s).contexts = s.contexts
      ∧ (freeSlot k s).readySeq = s.readySeq ∧ (freeSlot k s).inFlight = s.inFlight
      ∧ (freeSlot k s).rrPointer = s.rrPointer ∧ (freeSlot k s).staging = s.staging
      ∧ (freeSlot k s).invQueue = s.invQueue ∧ (freeSlot k s).fenceWaiting = s.fenceWaiting
      ∧ (freeSlot k s).fenceCounter = s.fenceCounter ∧ (freeSlot k s).fenceToken = s.fenceToken
      ∧ (freeSlot k s).log = s.log ∧ (freeSlot k s).overflow = s.overflow ∧ (freeSlot k s).causes = s.causes
      ∧ (freeSlot k s).enables = s.enables ∧ (freeSlot k s).globalEnable = s.globalEnable
      ∧ (freeSlot k s).parkTimeout = s.parkTimeout ∧ (freeSlot k s).progError = s.progError
      ∧ (freeSlot k s).trace = s.trace ∧ (freeSlot k s).freeCount = s.freeCount ∧ (freeSlot k s).pending = s.pending := by
  simp [freeSlot]

@[simp] theorem freeSlot_accessors (k : SlotId) (s : State) :
    (∀ j, (freeSlot k s).aperture j = s.aperture j)
      ∧ (∀ j, (freeSlot k s).port j = s.port j)
      ∧ (∀ j, (freeSlot k s).queue j = s.queue j)
      ∧ (∀ j, (freeSlot k s).context j = s.context j) := by
  simp [State.aperture, State.port, State.queue, State.context]

@[simp] theorem removeHole_frame (m : Master) (t : Tag) (s : State) :
    (removeHole m t s).resetLow = s.resetLow ∧ (removeHole m t s).passLatched = s.passLatched
      ∧ (removeHole m t s).apertures = s.apertures ∧ (removeHole m t s).ports = s.ports
      ∧ (removeHole m t s).pageCache = s.pageCache ∧ (removeHole m t s).dirCache = s.dirCache
      ∧ (removeHole m t s).regions = s.regions ∧ (removeHole m t s).contexts = s.contexts
      ∧ (removeHole m t s).readySeq = s.readySeq ∧ (removeHole m t s).park = s.park
      ∧ (removeHole m t s).inFlight = s.inFlight ∧ (removeHole m t s).rrPointer = s.rrPointer
      ∧ (removeHole m t s).staging = s.staging ∧ (removeHole m t s).invQueue = s.invQueue
      ∧ (removeHole m t s).fenceWaiting = s.fenceWaiting ∧ (removeHole m t s).fenceCounter = s.fenceCounter
      ∧ (removeHole m t s).fenceToken = s.fenceToken ∧ (removeHole m t s).log = s.log
      ∧ (removeHole m t s).overflow = s.overflow ∧ (removeHole m t s).causes = s.causes
      ∧ (removeHole m t s).enables = s.enables ∧ (removeHole m t s).globalEnable = s.globalEnable
      ∧ (removeHole m t s).parkTimeout = s.parkTimeout ∧ (removeHole m t s).progError = s.progError
      ∧ (removeHole m t s).trace = s.trace ∧ (removeHole m t s).freeCount = s.freeCount
      ∧ (removeHole m t s).pending = s.pending := by
  simp [removeHole]

@[simp] theorem removeHole_accessors (m : Master) (t : Tag) (s : State) :
    (∀ j, (removeHole m t s).aperture j = s.aperture j)
      ∧ (∀ j, (removeHole m t s).port j = s.port j)
      ∧ (∀ j, (removeHole m t s).context j = s.context j) := by
  simp [State.aperture, State.port, State.context]

@[simp] theorem dropParkedWrite_frame (k : ParkSlot) (s : State) :
    (dropParkedWrite k s).resetLow = s.resetLow ∧ (dropParkedWrite k s).passLatched = s.passLatched
      ∧ (dropParkedWrite k s).apertures = s.apertures ∧ (dropParkedWrite k s).ports = s.ports
      ∧ (dropParkedWrite k s).pageCache = s.pageCache ∧ (dropParkedWrite k s).dirCache = s.dirCache
      ∧ (dropParkedWrite k s).regions = s.regions ∧ (dropParkedWrite k s).contexts = s.contexts
      ∧ (dropParkedWrite k s).readySeq = s.readySeq ∧ (dropParkedWrite k s).park = s.park
      ∧ (dropParkedWrite k s).inFlight = s.inFlight ∧ (dropParkedWrite k s).rrPointer = s.rrPointer
      ∧ (dropParkedWrite k s).staging = s.staging ∧ (dropParkedWrite k s).invQueue = s.invQueue
      ∧ (dropParkedWrite k s).fenceWaiting = s.fenceWaiting ∧ (dropParkedWrite k s).fenceCounter = s.fenceCounter
      ∧ (dropParkedWrite k s).fenceToken = s.fenceToken ∧ (dropParkedWrite k s).log = s.log
      ∧ (dropParkedWrite k s).overflow = s.overflow ∧ (dropParkedWrite k s).causes = s.causes
      ∧ (dropParkedWrite k s).enables = s.enables ∧ (dropParkedWrite k s).globalEnable = s.globalEnable
      ∧ (dropParkedWrite k s).parkTimeout = s.parkTimeout ∧ (dropParkedWrite k s).progError = s.progError
      ∧ (dropParkedWrite k s).trace = s.trace ∧ (dropParkedWrite k s).freeCount = s.freeCount
      ∧ (dropParkedWrite k s).pending = s.pending := by
  unfold dropParkedWrite
  split <;> simp

@[simp] theorem dropParkedWrite_accessors (k : ParkSlot) (s : State) :
    (∀ j, (dropParkedWrite k s).aperture j = s.aperture j)
      ∧ (∀ j, (dropParkedWrite k s).port j = s.port j)
      ∧ (∀ j, (dropParkedWrite k s).context j = s.context j) := by
  simp [State.aperture, State.port, State.context]

@[simp] theorem programmingError_frame (c : ErrorCode) (o : BitVec 12) (s : State) :
    (programmingError c o s).resetLow = s.resetLow ∧ (programmingError c o s).passLatched = s.passLatched
      ∧ (programmingError c o s).apertures = s.apertures ∧ (programmingError c o s).ports = s.ports
      ∧ (programmingError c o s).queues = s.queues ∧ (programmingError c o s).pageCache = s.pageCache
      ∧ (programmingError c o s).dirCache = s.dirCache ∧ (programmingError c o s).regions = s.regions
      ∧ (programmingError c o s).contexts = s.contexts ∧ (programmingError c o s).readySeq = s.readySeq
      ∧ (programmingError c o s).park = s.park ∧ (programmingError c o s).inFlight = s.inFlight
      ∧ (programmingError c o s).rrPointer = s.rrPointer ∧ (programmingError c o s).staging = s.staging
      ∧ (programmingError c o s).invQueue = s.invQueue ∧ (programmingError c o s).fenceWaiting = s.fenceWaiting
      ∧ (programmingError c o s).fenceCounter = s.fenceCounter ∧ (programmingError c o s).fenceToken = s.fenceToken
      ∧ (programmingError c o s).log = s.log ∧ (programmingError c o s).overflow = s.overflow
      ∧ (programmingError c o s).enables = s.enables ∧ (programmingError c o s).globalEnable = s.globalEnable
      ∧ (programmingError c o s).parkTimeout = s.parkTimeout ∧ (programmingError c o s).trace = s.trace
      ∧ (programmingError c o s).freeCount = s.freeCount ∧ (programmingError c o s).pending = s.pending := by
  simp [programmingError]

@[simp] theorem programmingError_accessors (c : ErrorCode) (o : BitVec 12) (s : State) :
    (∀ j, (programmingError c o s).aperture j = s.aperture j)
      ∧ (∀ j, (programmingError c o s).port j = s.port j)
      ∧ (∀ j, (programmingError c o s).queue j = s.queue j)
      ∧ (∀ j, (programmingError c o s).context j = s.context j) := by
  simp [State.aperture, State.port, State.queue, State.context]

@[simp] theorem touchPage_frame (e : PageEntry) (s : State) :
    (touchPage e s).resetLow = s.resetLow ∧ (touchPage e s).passLatched = s.passLatched
      ∧ (touchPage e s).apertures = s.apertures ∧ (touchPage e s).ports = s.ports ∧ (touchPage e s).queues = s.queues
      ∧ (touchPage e s).dirCache = s.dirCache ∧ (touchPage e s).regions = s.regions
      ∧ (touchPage e s).contexts = s.contexts ∧ (touchPage e s).readySeq = s.readySeq ∧ (touchPage e s).park = s.park
      ∧ (touchPage e s).inFlight = s.inFlight ∧ (touchPage e s).rrPointer = s.rrPointer
      ∧ (touchPage e s).staging = s.staging ∧ (touchPage e s).invQueue = s.invQueue
      ∧ (touchPage e s).fenceWaiting = s.fenceWaiting ∧ (touchPage e s).fenceCounter = s.fenceCounter
      ∧ (touchPage e s).fenceToken = s.fenceToken ∧ (touchPage e s).log = s.log
      ∧ (touchPage e s).overflow = s.overflow ∧ (touchPage e s).causes = s.causes
      ∧ (touchPage e s).enables = s.enables ∧ (touchPage e s).globalEnable = s.globalEnable
      ∧ (touchPage e s).parkTimeout = s.parkTimeout ∧ (touchPage e s).progError = s.progError
      ∧ (touchPage e s).trace = s.trace ∧ (touchPage e s).freeCount = s.freeCount
      ∧ (touchPage e s).pending = s.pending := by
  simp [touchPage]

@[simp] theorem touchPage_accessors (e : PageEntry) (s : State) :
    (∀ j, (touchPage e s).aperture j = s.aperture j)
      ∧ (∀ j, (touchPage e s).port j = s.port j)
      ∧ (∀ j, (touchPage e s).queue j = s.queue j)
      ∧ (∀ j, (touchPage e s).context j = s.context j) := by
  simp [State.aperture, State.port, State.queue, State.context]

@[simp] theorem fillPage_frame (n : ApertureId) (p : Nat) (f : Frame) (a : MapAccess) (k : Bool) (s : State) :
    (fillPage n p f a k s).resetLow = s.resetLow ∧ (fillPage n p f a k s).passLatched = s.passLatched
      ∧ (fillPage n p f a k s).apertures = s.apertures ∧ (fillPage n p f a k s).ports = s.ports
      ∧ (fillPage n p f a k s).queues = s.queues ∧ (fillPage n p f a k s).dirCache = s.dirCache
      ∧ (fillPage n p f a k s).regions = s.regions ∧ (fillPage n p f a k s).contexts = s.contexts
      ∧ (fillPage n p f a k s).readySeq = s.readySeq ∧ (fillPage n p f a k s).park = s.park
      ∧ (fillPage n p f a k s).inFlight = s.inFlight ∧ (fillPage n p f a k s).rrPointer = s.rrPointer
      ∧ (fillPage n p f a k s).staging = s.staging ∧ (fillPage n p f a k s).invQueue = s.invQueue
      ∧ (fillPage n p f a k s).fenceWaiting = s.fenceWaiting ∧ (fillPage n p f a k s).fenceCounter = s.fenceCounter
      ∧ (fillPage n p f a k s).fenceToken = s.fenceToken ∧ (fillPage n p f a k s).log = s.log
      ∧ (fillPage n p f a k s).overflow = s.overflow ∧ (fillPage n p f a k s).enables = s.enables
      ∧ (fillPage n p f a k s).globalEnable = s.globalEnable ∧ (fillPage n p f a k s).parkTimeout = s.parkTimeout
      ∧ (fillPage n p f a k s).progError = s.progError ∧ (fillPage n p f a k s).trace = s.trace
      ∧ (fillPage n p f a k s).freeCount = s.freeCount ∧ (fillPage n p f a k s).pending = s.pending := by
  unfold fillPage
  dsimp only
  repeat' split
  all_goals simp

@[simp] theorem fillPage_accessors (n : ApertureId) (p : Nat) (f : Frame) (a : MapAccess) (k : Bool) (s : State) :
    (∀ j, (fillPage n p f a k s).aperture j = s.aperture j)
      ∧ (∀ j, (fillPage n p f a k s).port j = s.port j)
      ∧ (∀ j, (fillPage n p f a k s).queue j = s.queue j)
      ∧ (∀ j, (fillPage n p f a k s).context j = s.context j) := by
  simp [State.aperture, State.port, State.queue, State.context]

@[simp] theorem touchDir_frame (e : DirEntry) (s : State) :
    (touchDir e s).resetLow = s.resetLow ∧ (touchDir e s).passLatched = s.passLatched
      ∧ (touchDir e s).apertures = s.apertures ∧ (touchDir e s).ports = s.ports ∧ (touchDir e s).queues = s.queues
      ∧ (touchDir e s).pageCache = s.pageCache ∧ (touchDir e s).regions = s.regions
      ∧ (touchDir e s).contexts = s.contexts ∧ (touchDir e s).readySeq = s.readySeq ∧ (touchDir e s).park = s.park
      ∧ (touchDir e s).inFlight = s.inFlight ∧ (touchDir e s).rrPointer = s.rrPointer
      ∧ (touchDir e s).staging = s.staging ∧ (touchDir e s).invQueue = s.invQueue
      ∧ (touchDir e s).fenceWaiting = s.fenceWaiting ∧ (touchDir e s).fenceCounter = s.fenceCounter
      ∧ (touchDir e s).fenceToken = s.fenceToken ∧ (touchDir e s).log = s.log ∧ (touchDir e s).overflow = s.overflow
      ∧ (touchDir e s).causes = s.causes ∧ (touchDir e s).enables = s.enables
      ∧ (touchDir e s).globalEnable = s.globalEnable ∧ (touchDir e s).parkTimeout = s.parkTimeout
      ∧ (touchDir e s).progError = s.progError ∧ (touchDir e s).trace = s.trace
      ∧ (touchDir e s).freeCount = s.freeCount ∧ (touchDir e s).pending = s.pending := by
  simp [touchDir]

@[simp] theorem touchDir_accessors (e : DirEntry) (s : State) :
    (∀ j, (touchDir e s).aperture j = s.aperture j)
      ∧ (∀ j, (touchDir e s).port j = s.port j)
      ∧ (∀ j, (touchDir e s).queue j = s.queue j)
      ∧ (∀ j, (touchDir e s).context j = s.context j) := by
  simp [State.aperture, State.port, State.queue, State.context]

@[simp] theorem fillDir_frame (w : Walk) (f : Frame) (s : State) :
    (fillDir w f s).resetLow = s.resetLow ∧ (fillDir w f s).passLatched = s.passLatched
      ∧ (fillDir w f s).apertures = s.apertures ∧ (fillDir w f s).ports = s.ports ∧ (fillDir w f s).queues = s.queues
      ∧ (fillDir w f s).pageCache = s.pageCache ∧ (fillDir w f s).regions = s.regions
      ∧ (fillDir w f s).contexts = s.contexts ∧ (fillDir w f s).readySeq = s.readySeq ∧ (fillDir w f s).park = s.park
      ∧ (fillDir w f s).inFlight = s.inFlight ∧ (fillDir w f s).rrPointer = s.rrPointer
      ∧ (fillDir w f s).staging = s.staging ∧ (fillDir w f s).invQueue = s.invQueue
      ∧ (fillDir w f s).fenceWaiting = s.fenceWaiting ∧ (fillDir w f s).fenceCounter = s.fenceCounter
      ∧ (fillDir w f s).fenceToken = s.fenceToken ∧ (fillDir w f s).log = s.log
      ∧ (fillDir w f s).overflow = s.overflow ∧ (fillDir w f s).causes = s.causes
      ∧ (fillDir w f s).enables = s.enables ∧ (fillDir w f s).globalEnable = s.globalEnable
      ∧ (fillDir w f s).parkTimeout = s.parkTimeout ∧ (fillDir w f s).progError = s.progError
      ∧ (fillDir w f s).trace = s.trace ∧ (fillDir w f s).freeCount = s.freeCount
      ∧ (fillDir w f s).pending = s.pending := by
  unfold fillDir
  dsimp only
  split <;> simp

@[simp] theorem fillDir_accessors (w : Walk) (f : Frame) (s : State) :
    (∀ j, (fillDir w f s).aperture j = s.aperture j)
      ∧ (∀ j, (fillDir w f s).port j = s.port j)
      ∧ (∀ j, (fillDir w f s).queue j = s.queue j)
      ∧ (∀ j, (fillDir w f s).context j = s.context j) := by
  simp [State.aperture, State.port, State.queue, State.context]

@[simp] theorem makePending_frame (c : ContextId) (w : Walk) (s : State) :
    (makePending c w s).resetLow = s.resetLow ∧ (makePending c w s).passLatched = s.passLatched
      ∧ (makePending c w s).apertures = s.apertures ∧ (makePending c w s).ports = s.ports
      ∧ (makePending c w s).queues = s.queues ∧ (makePending c w s).pageCache = s.pageCache
      ∧ (makePending c w s).dirCache = s.dirCache ∧ (makePending c w s).regions = s.regions
      ∧ (makePending c w s).park = s.park ∧ (makePending c w s).inFlight = s.inFlight
      ∧ (makePending c w s).rrPointer = s.rrPointer ∧ (makePending c w s).staging = s.staging
      ∧ (makePending c w s).invQueue = s.invQueue ∧ (makePending c w s).fenceWaiting = s.fenceWaiting
      ∧ (makePending c w s).fenceCounter = s.fenceCounter ∧ (makePending c w s).fenceToken = s.fenceToken
      ∧ (makePending c w s).log = s.log ∧ (makePending c w s).overflow = s.overflow
      ∧ (makePending c w s).causes = s.causes ∧ (makePending c w s).enables = s.enables
      ∧ (makePending c w s).globalEnable = s.globalEnable ∧ (makePending c w s).parkTimeout = s.parkTimeout
      ∧ (makePending c w s).progError = s.progError ∧ (makePending c w s).trace = s.trace
      ∧ (makePending c w s).freeCount = s.freeCount ∧ (makePending c w s).pending = s.pending := by
  simp [makePending]

@[simp] theorem makePending_accessors (c : ContextId) (w : Walk) (s : State) :
    (∀ j, (makePending c w s).aperture j = s.aperture j)
      ∧ (∀ j, (makePending c w s).port j = s.port j)
      ∧ (∀ j, (makePending c w s).queue j = s.queue j) := by
  simp [State.aperture, State.port, State.queue]

@[simp] theorem enterBlock_frame (c : ContextId) (w : Walk) (f : Frame) (s : State) :
    ((enterBlock c w f s).1).resetLow = s.resetLow ∧ ((enterBlock c w f s).1).passLatched = s.passLatched
      ∧ ((enterBlock c w f s).1).apertures = s.apertures ∧ ((enterBlock c w f s).1).ports = s.ports
      ∧ ((enterBlock c w f s).1).queues = s.queues ∧ ((enterBlock c w f s).1).pageCache = s.pageCache
      ∧ ((enterBlock c w f s).1).dirCache = s.dirCache ∧ ((enterBlock c w f s).1).regions = s.regions
      ∧ ((enterBlock c w f s).1).park = s.park ∧ ((enterBlock c w f s).1).inFlight = s.inFlight
      ∧ ((enterBlock c w f s).1).rrPointer = s.rrPointer ∧ ((enterBlock c w f s).1).staging = s.staging
      ∧ ((enterBlock c w f s).1).invQueue = s.invQueue ∧ ((enterBlock c w f s).1).fenceWaiting = s.fenceWaiting
      ∧ ((enterBlock c w f s).1).fenceCounter = s.fenceCounter ∧ ((enterBlock c w f s).1).fenceToken = s.fenceToken
      ∧ ((enterBlock c w f s).1).log = s.log ∧ ((enterBlock c w f s).1).overflow = s.overflow
      ∧ ((enterBlock c w f s).1).causes = s.causes ∧ ((enterBlock c w f s).1).enables = s.enables
      ∧ ((enterBlock c w f s).1).globalEnable = s.globalEnable ∧ ((enterBlock c w f s).1).parkTimeout = s.parkTimeout
      ∧ ((enterBlock c w f s).1).progError = s.progError ∧ ((enterBlock c w f s).1).trace = s.trace
      ∧ ((enterBlock c w f s).1).freeCount = s.freeCount ∧ ((enterBlock c w f s).1).pending = s.pending := by
  unfold enterBlock
  dsimp only
  repeat' split
  all_goals simp

@[simp] theorem enterBlock_accessors (c : ContextId) (w : Walk) (f : Frame) (s : State) :
    (∀ j, ((enterBlock c w f s).1).aperture j = s.aperture j)
      ∧ (∀ j, ((enterBlock c w f s).1).port j = s.port j)
      ∧ (∀ j, ((enterBlock c w f s).1).queue j = s.queue j) := by
  simp [State.aperture, State.port, State.queue]

@[simp] theorem enterDirectory_frame (c : ContextId) (w : Walk) (s : State) :
    ((enterDirectory c w s).1).resetLow = s.resetLow ∧ ((enterDirectory c w s).1).passLatched = s.passLatched
      ∧ ((enterDirectory c w s).1).apertures = s.apertures ∧ ((enterDirectory c w s).1).ports = s.ports
      ∧ ((enterDirectory c w s).1).queues = s.queues ∧ ((enterDirectory c w s).1).pageCache = s.pageCache
      ∧ ((enterDirectory c w s).1).regions = s.regions ∧ ((enterDirectory c w s).1).park = s.park
      ∧ ((enterDirectory c w s).1).inFlight = s.inFlight ∧ ((enterDirectory c w s).1).rrPointer = s.rrPointer
      ∧ ((enterDirectory c w s).1).staging = s.staging ∧ ((enterDirectory c w s).1).invQueue = s.invQueue
      ∧ ((enterDirectory c w s).1).fenceWaiting = s.fenceWaiting
      ∧ ((enterDirectory c w s).1).fenceCounter = s.fenceCounter
      ∧ ((enterDirectory c w s).1).fenceToken = s.fenceToken ∧ ((enterDirectory c w s).1).log = s.log
      ∧ ((enterDirectory c w s).1).overflow = s.overflow ∧ ((enterDirectory c w s).1).causes = s.causes
      ∧ ((enterDirectory c w s).1).enables = s.enables ∧ ((enterDirectory c w s).1).globalEnable = s.globalEnable
      ∧ ((enterDirectory c w s).1).parkTimeout = s.parkTimeout ∧ ((enterDirectory c w s).1).progError = s.progError
      ∧ ((enterDirectory c w s).1).trace = s.trace ∧ ((enterDirectory c w s).1).freeCount = s.freeCount
      ∧ ((enterDirectory c w s).1).pending = s.pending := by
  unfold enterDirectory
  dsimp only
  repeat' split
  all_goals simp

@[simp] theorem enterDirectory_accessors (c : ContextId) (w : Walk) (s : State) :
    (∀ j, ((enterDirectory c w s).1).aperture j = s.aperture j)
      ∧ (∀ j, ((enterDirectory c w s).1).port j = s.port j)
      ∧ (∀ j, ((enterDirectory c w s).1).queue j = s.queue j) := by
  simp [State.aperture, State.port, State.queue]

@[simp] theorem startWalk_frame (c : ContextId) (n : ApertureId) (p : Nat) (s : State) :
    ((startWalk c n p s).1).resetLow = s.resetLow ∧ ((startWalk c n p s).1).passLatched = s.passLatched
      ∧ ((startWalk c n p s).1).apertures = s.apertures ∧ ((startWalk c n p s).1).ports = s.ports
      ∧ ((startWalk c n p s).1).queues = s.queues ∧ ((startWalk c n p s).1).pageCache = s.pageCache
      ∧ ((startWalk c n p s).1).regions = s.regions ∧ ((startWalk c n p s).1).park = s.park
      ∧ ((startWalk c n p s).1).inFlight = s.inFlight ∧ ((startWalk c n p s).1).rrPointer = s.rrPointer
      ∧ ((startWalk c n p s).1).staging = s.staging ∧ ((startWalk c n p s).1).invQueue = s.invQueue
      ∧ ((startWalk c n p s).1).fenceWaiting = s.fenceWaiting ∧ ((startWalk c n p s).1).fenceCounter = s.fenceCounter
      ∧ ((startWalk c n p s).1).fenceToken = s.fenceToken ∧ ((startWalk c n p s).1).log = s.log
      ∧ ((startWalk c n p s).1).overflow = s.overflow ∧ ((startWalk c n p s).1).causes = s.causes
      ∧ ((startWalk c n p s).1).enables = s.enables ∧ ((startWalk c n p s).1).globalEnable = s.globalEnable
      ∧ ((startWalk c n p s).1).parkTimeout = s.parkTimeout ∧ ((startWalk c n p s).1).progError = s.progError
      ∧ ((startWalk c n p s).1).trace = s.trace ∧ ((startWalk c n p s).1).freeCount = s.freeCount
      ∧ ((startWalk c n p s).1).pending = s.pending := by
  simp [startWalk]

@[simp] theorem startWalk_accessors (c : ContextId) (n : ApertureId) (p : Nat) (s : State) :
    (∀ j, ((startWalk c n p s).1).aperture j = s.aperture j)
      ∧ (∀ j, ((startWalk c n p s).1).port j = s.port j)
      ∧ (∀ j, ((startWalk c n p s).1).queue j = s.queue j) := by
  simp [State.aperture, State.port, State.queue]

@[simp] theorem faultByWalk_frame (f : WalkFault) (s : State) (k : ParkSlot) :
    (faultByWalk f s k).resetLow = s.resetLow ∧ (faultByWalk f s k).passLatched = s.passLatched
      ∧ (faultByWalk f s k).regions = s.regions ∧ (faultByWalk f s k).contexts = s.contexts
      ∧ (faultByWalk f s k).readySeq = s.readySeq ∧ (faultByWalk f s k).inFlight = s.inFlight
      ∧ (faultByWalk f s k).rrPointer = s.rrPointer ∧ (faultByWalk f s k).staging = s.staging
      ∧ (faultByWalk f s k).invQueue = s.invQueue ∧ (faultByWalk f s k).fenceWaiting = s.fenceWaiting
      ∧ (faultByWalk f s k).fenceCounter = s.fenceCounter ∧ (faultByWalk f s k).fenceToken = s.fenceToken
      ∧ (faultByWalk f s k).enables = s.enables ∧ (faultByWalk f s k).globalEnable = s.globalEnable
      ∧ (faultByWalk f s k).parkTimeout = s.parkTimeout ∧ (faultByWalk f s k).progError = s.progError
      ∧ (faultByWalk f s k).trace = s.trace ∧ (faultByWalk f s k).pending = s.pending := by
  simp [faultByWalk, faultWaiter]

@[simp] theorem faultByWalk_accessors (f : WalkFault) (s : State) (k : ParkSlot) :
    (∀ j, (faultByWalk f s k).context j = s.context j) := by
  simp [State.context]

@[simp] theorem appendRead_frame (m : Master) (e : ReadEntry) (s : State) :
    (appendRead m e s).resetLow = s.resetLow ∧ (appendRead m e s).passLatched = s.passLatched
      ∧ (appendRead m e s).apertures = s.apertures ∧ (appendRead m e s).ports = s.ports
      ∧ (appendRead m e s).pageCache = s.pageCache ∧ (appendRead m e s).dirCache = s.dirCache
      ∧ (appendRead m e s).regions = s.regions ∧ (appendRead m e s).contexts = s.contexts
      ∧ (appendRead m e s).readySeq = s.readySeq ∧ (appendRead m e s).park = s.park
      ∧ (appendRead m e s).inFlight = s.inFlight ∧ (appendRead m e s).rrPointer = s.rrPointer
      ∧ (appendRead m e s).staging = s.staging ∧ (appendRead m e s).invQueue = s.invQueue
      ∧ (appendRead m e s).fenceWaiting = s.fenceWaiting ∧ (appendRead m e s).fenceCounter = s.fenceCounter
      ∧ (appendRead m e s).fenceToken = s.fenceToken ∧ (appendRead m e s).log = s.log
      ∧ (appendRead m e s).overflow = s.overflow ∧ (appendRead m e s).causes = s.causes
      ∧ (appendRead m e s).enables = s.enables ∧ (appendRead m e s).globalEnable = s.globalEnable
      ∧ (appendRead m e s).parkTimeout = s.parkTimeout ∧ (appendRead m e s).progError = s.progError
      ∧ (appendRead m e s).trace = s.trace ∧ (appendRead m e s).freeCount = s.freeCount
      ∧ (appendRead m e s).pending = s.pending := by
  simp [appendRead]

@[simp] theorem appendRead_accessors (m : Master) (e : ReadEntry) (s : State) :
    (∀ j, (appendRead m e s).aperture j = s.aperture j)
      ∧ (∀ j, (appendRead m e s).port j = s.port j)
      ∧ (∀ j, (appendRead m e s).context j = s.context j) := by
  simp [State.aperture, State.port, State.context]

@[simp] theorem translateHole_frame (m : Master) (t : Tag) (p : PhysAddr) (b : Bool) (s : State) :
    (translateHole m t p b s).resetLow = s.resetLow ∧ (translateHole m t p b s).passLatched = s.passLatched
      ∧ (translateHole m t p b s).apertures = s.apertures ∧ (translateHole m t p b s).ports = s.ports
      ∧ (translateHole m t p b s).pageCache = s.pageCache ∧ (translateHole m t p b s).dirCache = s.dirCache
      ∧ (translateHole m t p b s).regions = s.regions ∧ (translateHole m t p b s).contexts = s.contexts
      ∧ (translateHole m t p b s).readySeq = s.readySeq ∧ (translateHole m t p b s).park = s.park
      ∧ (translateHole m t p b s).inFlight = s.inFlight ∧ (translateHole m t p b s).rrPointer = s.rrPointer
      ∧ (translateHole m t p b s).staging = s.staging ∧ (translateHole m t p b s).invQueue = s.invQueue
      ∧ (translateHole m t p b s).fenceWaiting = s.fenceWaiting
      ∧ (translateHole m t p b s).fenceCounter = s.fenceCounter ∧ (translateHole m t p b s).fenceToken = s.fenceToken
      ∧ (translateHole m t p b s).log = s.log ∧ (translateHole m t p b s).overflow = s.overflow
      ∧ (translateHole m t p b s).causes = s.causes ∧ (translateHole m t p b s).enables = s.enables
      ∧ (translateHole m t p b s).globalEnable = s.globalEnable
      ∧ (translateHole m t p b s).parkTimeout = s.parkTimeout ∧ (translateHole m t p b s).progError = s.progError
      ∧ (translateHole m t p b s).trace = s.trace ∧ (translateHole m t p b s).freeCount = s.freeCount
      ∧ (translateHole m t p b s).pending = s.pending := by
  simp [translateHole]

@[simp] theorem translateHole_accessors (m : Master) (t : Tag) (p : PhysAddr) (b : Bool) (s : State) :
    (∀ j, (translateHole m t p b s).aperture j = s.aperture j)
      ∧ (∀ j, (translateHole m t p b s).port j = s.port j)
      ∧ (∀ j, (translateHole m t p b s).context j = s.context j) := by
  simp [State.aperture, State.port, State.context]

@[simp] theorem postOkay_frame (m : Master) (t : Tag) (b : Bool) (s : State) :
    (postOkay m t b s).resetLow = s.resetLow ∧ (postOkay m t b s).passLatched = s.passLatched
      ∧ (postOkay m t b s).apertures = s.apertures ∧ (postOkay m t b s).queues = s.queues
      ∧ (postOkay m t b s).pageCache = s.pageCache ∧ (postOkay m t b s).dirCache = s.dirCache
      ∧ (postOkay m t b s).regions = s.regions ∧ (postOkay m t b s).contexts = s.contexts
      ∧ (postOkay m t b s).readySeq = s.readySeq ∧ (postOkay m t b s).park = s.park
      ∧ (postOkay m t b s).inFlight = s.inFlight ∧ (postOkay m t b s).rrPointer = s.rrPointer
      ∧ (postOkay m t b s).staging = s.staging ∧ (postOkay m t b s).invQueue = s.invQueue
      ∧ (postOkay m t b s).fenceWaiting = s.fenceWaiting ∧ (postOkay m t b s).fenceCounter = s.fenceCounter
      ∧ (postOkay m t b s).fenceToken = s.fenceToken ∧ (postOkay m t b s).log = s.log
      ∧ (postOkay m t b s).overflow = s.overflow ∧ (postOkay m t b s).causes = s.causes
      ∧ (postOkay m t b s).enables = s.enables ∧ (postOkay m t b s).globalEnable = s.globalEnable
      ∧ (postOkay m t b s).parkTimeout = s.parkTimeout ∧ (postOkay m t b s).progError = s.progError
      ∧ (postOkay m t b s).trace = s.trace ∧ (postOkay m t b s).freeCount = s.freeCount
      ∧ (postOkay m t b s).pending = s.pending := by
  unfold postOkay
  split <;> simp

@[simp] theorem postOkay_accessors (m : Master) (t : Tag) (b : Bool) (s : State) :
    (∀ j, (postOkay m t b s).aperture j = s.aperture j)
      ∧ (∀ j, (postOkay m t b s).queue j = s.queue j)
      ∧ (∀ j, (postOkay m t b s).context j = s.context j) := by
  simp [State.aperture, State.queue, State.context]

@[simp] theorem passWaiter_frame (k : ParkSlot) (p : PhysAddr) (s : State) :
    (passWaiter k p s).resetLow = s.resetLow ∧ (passWaiter k p s).passLatched = s.passLatched
      ∧ (passWaiter k p s).apertures = s.apertures ∧ (passWaiter k p s).pageCache = s.pageCache
      ∧ (passWaiter k p s).dirCache = s.dirCache ∧ (passWaiter k p s).regions = s.regions
      ∧ (passWaiter k p s).contexts = s.contexts ∧ (passWaiter k p s).readySeq = s.readySeq
      ∧ (passWaiter k p s).inFlight = s.inFlight ∧ (passWaiter k p s).rrPointer = s.rrPointer
      ∧ (passWaiter k p s).staging = s.staging ∧ (passWaiter k p s).invQueue = s.invQueue
      ∧ (passWaiter k p s).fenceWaiting = s.fenceWaiting ∧ (passWaiter k p s).fenceCounter = s.fenceCounter
      ∧ (passWaiter k p s).fenceToken = s.fenceToken ∧ (passWaiter k p s).log = s.log
      ∧ (passWaiter k p s).overflow = s.overflow ∧ (passWaiter k p s).causes = s.causes
      ∧ (passWaiter k p s).enables = s.enables ∧ (passWaiter k p s).globalEnable = s.globalEnable
      ∧ (passWaiter k p s).parkTimeout = s.parkTimeout ∧ (passWaiter k p s).progError = s.progError
      ∧ (passWaiter k p s).trace = s.trace ∧ (passWaiter k p s).freeCount = s.freeCount
      ∧ (passWaiter k p s).pending = s.pending := by
  unfold passWaiter
  dsimp only
  split <;> simp

@[simp] theorem passWaiter_accessors (k : ParkSlot) (p : PhysAddr) (s : State) :
    (∀ j, (passWaiter k p s).aperture j = s.aperture j)
      ∧ (∀ j, (passWaiter k p s).context j = s.context j) := by
  simp [State.aperture, State.context]

@[simp] theorem serveWaiter_frame (f : Frame) (a : MapAccess) (s : State) (k : ParkSlot) :
    (serveWaiter f a s k).resetLow = s.resetLow ∧ (serveWaiter f a s k).passLatched = s.passLatched
      ∧ (serveWaiter f a s k).regions = s.regions ∧ (serveWaiter f a s k).contexts = s.contexts
      ∧ (serveWaiter f a s k).readySeq = s.readySeq ∧ (serveWaiter f a s k).inFlight = s.inFlight
      ∧ (serveWaiter f a s k).rrPointer = s.rrPointer ∧ (serveWaiter f a s k).staging = s.staging
      ∧ (serveWaiter f a s k).invQueue = s.invQueue ∧ (serveWaiter f a s k).fenceWaiting = s.fenceWaiting
      ∧ (serveWaiter f a s k).fenceCounter = s.fenceCounter ∧ (serveWaiter f a s k).fenceToken = s.fenceToken
      ∧ (serveWaiter f a s k).enables = s.enables ∧ (serveWaiter f a s k).globalEnable = s.globalEnable
      ∧ (serveWaiter f a s k).parkTimeout = s.parkTimeout ∧ (serveWaiter f a s k).progError = s.progError
      ∧ (serveWaiter f a s k).trace = s.trace ∧ (serveWaiter f a s k).pending = s.pending := by
  unfold serveWaiter
  dsimp only
  split <;> simp [faultWaiter]

@[simp] theorem serveWaiter_accessors (f : Frame) (a : MapAccess) (s : State) (k : ParkSlot) :
    (∀ j, (serveWaiter f a s k).context j = s.context j) := by
  simp [State.context]

@[simp] theorem expireSlot_frame (s : State) (k : ParkSlot) :
    (expireSlot s k).resetLow = s.resetLow ∧ (expireSlot s k).passLatched = s.passLatched
      ∧ (expireSlot s k).regions = s.regions ∧ (expireSlot s k).contexts = s.contexts
      ∧ (expireSlot s k).readySeq = s.readySeq ∧ (expireSlot s k).inFlight = s.inFlight
      ∧ (expireSlot s k).rrPointer = s.rrPointer ∧ (expireSlot s k).staging = s.staging
      ∧ (expireSlot s k).invQueue = s.invQueue ∧ (expireSlot s k).fenceWaiting = s.fenceWaiting
      ∧ (expireSlot s k).fenceCounter = s.fenceCounter ∧ (expireSlot s k).fenceToken = s.fenceToken
      ∧ (expireSlot s k).enables = s.enables ∧ (expireSlot s k).globalEnable = s.globalEnable
      ∧ (expireSlot s k).parkTimeout = s.parkTimeout ∧ (expireSlot s k).progError = s.progError
      ∧ (expireSlot s k).trace = s.trace ∧ (expireSlot s k).freeCount = s.freeCount
      ∧ (expireSlot s k).pending = s.pending := by
  simp [expireSlot]

@[simp] theorem expireSlot_accessors (s : State) (k : ParkSlot) :
    (∀ j, (expireSlot s k).context j = s.context j) := by
  simp [State.context]

@[simp] theorem abortSlot_frame (s : State) (k : ParkSlot) :
    (abortSlot s k).resetLow = s.resetLow ∧ (abortSlot s k).passLatched = s.passLatched
      ∧ (abortSlot s k).pageCache = s.pageCache ∧ (abortSlot s k).dirCache = s.dirCache
      ∧ (abortSlot s k).regions = s.regions ∧ (abortSlot s k).contexts = s.contexts
      ∧ (abortSlot s k).readySeq = s.readySeq ∧ (abortSlot s k).inFlight = s.inFlight
      ∧ (abortSlot s k).rrPointer = s.rrPointer ∧ (abortSlot s k).staging = s.staging
      ∧ (abortSlot s k).invQueue = s.invQueue ∧ (abortSlot s k).fenceWaiting = s.fenceWaiting
      ∧ (abortSlot s k).fenceCounter = s.fenceCounter ∧ (abortSlot s k).fenceToken = s.fenceToken
      ∧ (abortSlot s k).log = s.log ∧ (abortSlot s k).overflow = s.overflow ∧ (abortSlot s k).causes = s.causes
      ∧ (abortSlot s k).enables = s.enables ∧ (abortSlot s k).globalEnable = s.globalEnable
      ∧ (abortSlot s k).parkTimeout = s.parkTimeout ∧ (abortSlot s k).progError = s.progError
      ∧ (abortSlot s k).trace = s.trace ∧ (abortSlot s k).freeCount = s.freeCount
      ∧ (abortSlot s k).pending = s.pending := by
  simp [abortSlot]

@[simp] theorem abortSlot_accessors (s : State) (k : ParkSlot) :
    (∀ j, (abortSlot s k).context j = s.context j) := by
  simp [State.context]

@[simp] theorem joinQueued_frame (c : ContextId) (n : ApertureId) (p : Nat) (s : State) :
    (joinQueued c n p s).resetLow = s.resetLow ∧ (joinQueued c n p s).passLatched = s.passLatched
      ∧ (joinQueued c n p s).apertures = s.apertures ∧ (joinQueued c n p s).ports = s.ports
      ∧ (joinQueued c n p s).queues = s.queues ∧ (joinQueued c n p s).pageCache = s.pageCache
      ∧ (joinQueued c n p s).dirCache = s.dirCache ∧ (joinQueued c n p s).regions = s.regions
      ∧ (joinQueued c n p s).contexts = s.contexts ∧ (joinQueued c n p s).readySeq = s.readySeq
      ∧ (joinQueued c n p s).inFlight = s.inFlight ∧ (joinQueued c n p s).rrPointer = s.rrPointer
      ∧ (joinQueued c n p s).staging = s.staging ∧ (joinQueued c n p s).invQueue = s.invQueue
      ∧ (joinQueued c n p s).fenceWaiting = s.fenceWaiting ∧ (joinQueued c n p s).fenceCounter = s.fenceCounter
      ∧ (joinQueued c n p s).fenceToken = s.fenceToken ∧ (joinQueued c n p s).log = s.log
      ∧ (joinQueued c n p s).overflow = s.overflow ∧ (joinQueued c n p s).causes = s.causes
      ∧ (joinQueued c n p s).enables = s.enables ∧ (joinQueued c n p s).globalEnable = s.globalEnable
      ∧ (joinQueued c n p s).parkTimeout = s.parkTimeout ∧ (joinQueued c n p s).progError = s.progError
      ∧ (joinQueued c n p s).trace = s.trace ∧ (joinQueued c n p s).freeCount = s.freeCount
      ∧ (joinQueued c n p s).pending = s.pending := by
  simp [joinQueued]

@[simp] theorem joinQueued_accessors (c : ContextId) (n : ApertureId) (p : Nat) (s : State) :
    (∀ j, (joinQueued c n p s).aperture j = s.aperture j)
      ∧ (∀ j, (joinQueued c n p s).port j = s.port j)
      ∧ (∀ j, (joinQueued c n p s).queue j = s.queue j)
      ∧ (∀ j, (joinQueued c n p s).context j = s.context j) := by
  simp [State.aperture, State.port, State.queue, State.context]

@[simp] theorem appendWrite_frame (m : Master) (e : WriteEntry) (s : State) :
    (appendWrite m e s).resetLow = s.resetLow ∧ (appendWrite m e s).passLatched = s.passLatched
      ∧ (appendWrite m e s).apertures = s.apertures ∧ (appendWrite m e s).ports = s.ports
      ∧ (appendWrite m e s).pageCache = s.pageCache ∧ (appendWrite m e s).dirCache = s.dirCache
      ∧ (appendWrite m e s).regions = s.regions ∧ (appendWrite m e s).contexts = s.contexts
      ∧ (appendWrite m e s).readySeq = s.readySeq ∧ (appendWrite m e s).park = s.park
      ∧ (appendWrite m e s).inFlight = s.inFlight ∧ (appendWrite m e s).rrPointer = s.rrPointer
      ∧ (appendWrite m e s).staging = s.staging ∧ (appendWrite m e s).invQueue = s.invQueue
      ∧ (appendWrite m e s).fenceWaiting = s.fenceWaiting ∧ (appendWrite m e s).fenceCounter = s.fenceCounter
      ∧ (appendWrite m e s).fenceToken = s.fenceToken ∧ (appendWrite m e s).log = s.log
      ∧ (appendWrite m e s).overflow = s.overflow ∧ (appendWrite m e s).causes = s.causes
      ∧ (appendWrite m e s).enables = s.enables ∧ (appendWrite m e s).globalEnable = s.globalEnable
      ∧ (appendWrite m e s).parkTimeout = s.parkTimeout ∧ (appendWrite m e s).progError = s.progError
      ∧ (appendWrite m e s).trace = s.trace ∧ (appendWrite m e s).freeCount = s.freeCount
      ∧ (appendWrite m e s).pending = s.pending := by
  simp [appendWrite]

@[simp] theorem appendWrite_accessors (m : Master) (e : WriteEntry) (s : State) :
    (∀ j, (appendWrite m e s).aperture j = s.aperture j)
      ∧ (∀ j, (appendWrite m e s).port j = s.port j)
      ∧ (∀ j, (appendWrite m e s).context j = s.context j) := by
  simp [State.aperture, State.port, State.context]

@[simp] theorem admit_frame (m : Master) (r : Request) (n : ApertureId) (s : State) :
    (admitRequest m r n s).resetLow = s.resetLow ∧ (admitRequest m r n s).passLatched = s.passLatched
      ∧ (admitRequest m r n s).queues = s.queues ∧ (admitRequest m r n s).pageCache = s.pageCache
      ∧ (admitRequest m r n s).dirCache = s.dirCache ∧ (admitRequest m r n s).regions = s.regions
      ∧ (admitRequest m r n s).contexts = s.contexts ∧ (admitRequest m r n s).readySeq = s.readySeq ∧ (admitRequest m r n s).park = s.park
      ∧ (admitRequest m r n s).inFlight = s.inFlight ∧ (admitRequest m r n s).rrPointer = s.rrPointer
      ∧ (admitRequest m r n s).staging = s.staging ∧ (admitRequest m r n s).invQueue = s.invQueue
      ∧ (admitRequest m r n s).fenceWaiting = s.fenceWaiting ∧ (admitRequest m r n s).fenceCounter = s.fenceCounter
      ∧ (admitRequest m r n s).fenceToken = s.fenceToken ∧ (admitRequest m r n s).log = s.log
      ∧ (admitRequest m r n s).overflow = s.overflow ∧ (admitRequest m r n s).causes = s.causes
      ∧ (admitRequest m r n s).enables = s.enables ∧ (admitRequest m r n s).globalEnable = s.globalEnable
      ∧ (admitRequest m r n s).parkTimeout = s.parkTimeout ∧ (admitRequest m r n s).progError = s.progError
      ∧ (admitRequest m r n s).trace = s.trace ∧ (admitRequest m r n s).freeCount = s.freeCount
      ∧ (admitRequest m r n s).pending = s.pending := by
  simp [admitRequest]

@[simp] theorem admit_accessors (m : Master) (r : Request) (n : ApertureId) (s : State) :
    (∀ j, (admitRequest m r n s).queue j = s.queue j)
      ∧ (∀ j, (admitRequest m r n s).context j = s.context j) := by
  simp [State.queue, State.context]

@[simp] theorem endPortReset_frame (m : Master) (s : State) :
    (endPortReset m s).resetLow = s.resetLow ∧ (endPortReset m s).passLatched = s.passLatched
      ∧ (endPortReset m s).apertures = s.apertures ∧ (endPortReset m s).queues = s.queues
      ∧ (endPortReset m s).pageCache = s.pageCache ∧ (endPortReset m s).dirCache = s.dirCache
      ∧ (endPortReset m s).regions = s.regions ∧ (endPortReset m s).contexts = s.contexts
      ∧ (endPortReset m s).readySeq = s.readySeq ∧ (endPortReset m s).park = s.park
      ∧ (endPortReset m s).inFlight = s.inFlight ∧ (endPortReset m s).rrPointer = s.rrPointer
      ∧ (endPortReset m s).staging = s.staging ∧ (endPortReset m s).invQueue = s.invQueue
      ∧ (endPortReset m s).fenceWaiting = s.fenceWaiting ∧ (endPortReset m s).fenceCounter = s.fenceCounter
      ∧ (endPortReset m s).fenceToken = s.fenceToken ∧ (endPortReset m s).log = s.log
      ∧ (endPortReset m s).overflow = s.overflow ∧ (endPortReset m s).enables = s.enables
      ∧ (endPortReset m s).globalEnable = s.globalEnable ∧ (endPortReset m s).parkTimeout = s.parkTimeout
      ∧ (endPortReset m s).progError = s.progError ∧ (endPortReset m s).trace = s.trace
      ∧ (endPortReset m s).freeCount = s.freeCount ∧ (endPortReset m s).pending = s.pending := by
  simp [endPortReset]

@[simp] theorem endPortReset_accessors (m : Master) (s : State) :
    (∀ j, (endPortReset m s).aperture j = s.aperture j)
      ∧ (∀ j, (endPortReset m s).queue j = s.queue j)
      ∧ (∀ j, (endPortReset m s).context j = s.context j) := by
  simp [State.aperture, State.queue, State.context]

@[simp] theorem portResetTest_frame (m : Master) (s : State) :
    (portResetTest m s).resetLow = s.resetLow ∧ (portResetTest m s).passLatched = s.passLatched
      ∧ (portResetTest m s).apertures = s.apertures ∧ (portResetTest m s).queues = s.queues
      ∧ (portResetTest m s).pageCache = s.pageCache ∧ (portResetTest m s).dirCache = s.dirCache
      ∧ (portResetTest m s).regions = s.regions ∧ (portResetTest m s).contexts = s.contexts
      ∧ (portResetTest m s).readySeq = s.readySeq ∧ (portResetTest m s).park = s.park
      ∧ (portResetTest m s).inFlight = s.inFlight ∧ (portResetTest m s).rrPointer = s.rrPointer
      ∧ (portResetTest m s).staging = s.staging ∧ (portResetTest m s).invQueue = s.invQueue
      ∧ (portResetTest m s).fenceWaiting = s.fenceWaiting ∧ (portResetTest m s).fenceCounter = s.fenceCounter
      ∧ (portResetTest m s).fenceToken = s.fenceToken ∧ (portResetTest m s).log = s.log
      ∧ (portResetTest m s).overflow = s.overflow ∧ (portResetTest m s).enables = s.enables
      ∧ (portResetTest m s).globalEnable = s.globalEnable ∧ (portResetTest m s).parkTimeout = s.parkTimeout
      ∧ (portResetTest m s).progError = s.progError ∧ (portResetTest m s).trace = s.trace
      ∧ (portResetTest m s).freeCount = s.freeCount ∧ (portResetTest m s).pending = s.pending := by
  unfold portResetTest
  split <;> simp

@[simp] theorem portResetTest_accessors (m : Master) (s : State) :
    (∀ j, (portResetTest m s).aperture j = s.aperture j)
      ∧ (∀ j, (portResetTest m s).queue j = s.queue j)
      ∧ (∀ j, (portResetTest m s).context j = s.context j) := by
  simp [State.aperture, State.queue, State.context]

@[simp] theorem indicate_frame (m : Master) (s : State) :
    (indicate m s).resetLow = s.resetLow ∧ (indicate m s).passLatched = s.passLatched
      ∧ (indicate m s).apertures = s.apertures ∧ (indicate m s).ports = s.ports ∧ (indicate m s).queues = s.queues
      ∧ (indicate m s).pageCache = s.pageCache ∧ (indicate m s).dirCache = s.dirCache
      ∧ (indicate m s).regions = s.regions ∧ (indicate m s).contexts = s.contexts
      ∧ (indicate m s).readySeq = s.readySeq ∧ (indicate m s).park = s.park ∧ (indicate m s).inFlight = s.inFlight
      ∧ (indicate m s).rrPointer = s.rrPointer ∧ (indicate m s).staging = s.staging
      ∧ (indicate m s).invQueue = s.invQueue ∧ (indicate m s).fenceWaiting = s.fenceWaiting
      ∧ (indicate m s).fenceCounter = s.fenceCounter ∧ (indicate m s).fenceToken = s.fenceToken
      ∧ (indicate m s).log = s.log ∧ (indicate m s).overflow = s.overflow ∧ (indicate m s).causes = s.causes
      ∧ (indicate m s).enables = s.enables ∧ (indicate m s).globalEnable = s.globalEnable
      ∧ (indicate m s).parkTimeout = s.parkTimeout ∧ (indicate m s).progError = s.progError
      ∧ (indicate m s).freeCount = s.freeCount ∧ (indicate m s).pending = s.pending := by
  simp [indicate]

@[simp] theorem indicate_accessors (m : Master) (s : State) :
    (∀ j, (indicate m s).aperture j = s.aperture j)
      ∧ (∀ j, (indicate m s).port j = s.port j)
      ∧ (∀ j, (indicate m s).queue j = s.queue j)
      ∧ (∀ j, (indicate m s).context j = s.context j) := by
  simp [State.aperture, State.port, State.queue, State.context]

@[simp] theorem sweep_frame (m : Master) (s : State) :
    (sweep m s).resetLow = s.resetLow ∧ (sweep m s).passLatched = s.passLatched ∧ (sweep m s).apertures = s.apertures
      ∧ (sweep m s).pageCache = s.pageCache ∧ (sweep m s).dirCache = s.dirCache ∧ (sweep m s).regions = s.regions
      ∧ (sweep m s).contexts = s.contexts ∧ (sweep m s).readySeq = s.readySeq ∧ (sweep m s).inFlight = s.inFlight
      ∧ (sweep m s).rrPointer = s.rrPointer ∧ (sweep m s).staging = s.staging ∧ (sweep m s).invQueue = s.invQueue
      ∧ (sweep m s).fenceWaiting = s.fenceWaiting ∧ (sweep m s).fenceCounter = s.fenceCounter
      ∧ (sweep m s).fenceToken = s.fenceToken ∧ (sweep m s).log = s.log ∧ (sweep m s).overflow = s.overflow
      ∧ (sweep m s).causes = s.causes ∧ (sweep m s).enables = s.enables ∧ (sweep m s).globalEnable = s.globalEnable
      ∧ (sweep m s).parkTimeout = s.parkTimeout ∧ (sweep m s).progError = s.progError ∧ (sweep m s).trace = s.trace
      ∧ (sweep m s).freeCount = s.freeCount ∧ (sweep m s).pending = s.pending := by
  simp [sweep]

@[simp] theorem sweep_accessors (m : Master) (s : State) :
    (∀ j, (sweep m s).aperture j = s.aperture j)
      ∧ (∀ j, (sweep m s).context j = s.context j) := by
  simp [State.aperture, State.context]

@[simp] theorem storeEnable_frame (m : Master) (e : Bool) (s : State) :
    (storeEnable m e s).resetLow = s.resetLow ∧ (storeEnable m e s).passLatched = s.passLatched
      ∧ (storeEnable m e s).apertures = s.apertures ∧ (storeEnable m e s).queues = s.queues
      ∧ (storeEnable m e s).pageCache = s.pageCache ∧ (storeEnable m e s).dirCache = s.dirCache
      ∧ (storeEnable m e s).regions = s.regions ∧ (storeEnable m e s).contexts = s.contexts
      ∧ (storeEnable m e s).readySeq = s.readySeq ∧ (storeEnable m e s).park = s.park
      ∧ (storeEnable m e s).inFlight = s.inFlight ∧ (storeEnable m e s).rrPointer = s.rrPointer
      ∧ (storeEnable m e s).staging = s.staging ∧ (storeEnable m e s).invQueue = s.invQueue
      ∧ (storeEnable m e s).fenceWaiting = s.fenceWaiting ∧ (storeEnable m e s).fenceCounter = s.fenceCounter
      ∧ (storeEnable m e s).fenceToken = s.fenceToken ∧ (storeEnable m e s).log = s.log
      ∧ (storeEnable m e s).overflow = s.overflow ∧ (storeEnable m e s).causes = s.causes
      ∧ (storeEnable m e s).enables = s.enables ∧ (storeEnable m e s).globalEnable = s.globalEnable
      ∧ (storeEnable m e s).parkTimeout = s.parkTimeout ∧ (storeEnable m e s).progError = s.progError
      ∧ (storeEnable m e s).trace = s.trace ∧ (storeEnable m e s).freeCount = s.freeCount
      ∧ (storeEnable m e s).pending = s.pending := by
  simp [storeEnable]

@[simp] theorem storeEnable_accessors (m : Master) (e : Bool) (s : State) :
    (∀ j, (storeEnable m e s).aperture j = s.aperture j)
      ∧ (∀ j, (storeEnable m e s).queue j = s.queue j)
      ∧ (∀ j, (storeEnable m e s).context j = s.context j) := by
  simp [State.aperture, State.queue, State.context]

@[simp] theorem executeInv_frame (q : InvCommand) (s : State) :
    (executeInv q s).resetLow = s.resetLow ∧ (executeInv q s).passLatched = s.passLatched
      ∧ (executeInv q s).apertures = s.apertures ∧ (executeInv q s).ports = s.ports
      ∧ (executeInv q s).queues = s.queues ∧ (executeInv q s).regions = s.regions
      ∧ (executeInv q s).readySeq = s.readySeq ∧ (executeInv q s).park = s.park
      ∧ (executeInv q s).inFlight = s.inFlight ∧ (executeInv q s).rrPointer = s.rrPointer
      ∧ (executeInv q s).staging = s.staging ∧ (executeInv q s).invQueue = s.invQueue
      ∧ (executeInv q s).fenceWaiting = s.fenceWaiting ∧ (executeInv q s).fenceCounter = s.fenceCounter
      ∧ (executeInv q s).fenceToken = s.fenceToken ∧ (executeInv q s).log = s.log
      ∧ (executeInv q s).overflow = s.overflow ∧ (executeInv q s).causes = s.causes
      ∧ (executeInv q s).enables = s.enables ∧ (executeInv q s).globalEnable = s.globalEnable
      ∧ (executeInv q s).parkTimeout = s.parkTimeout ∧ (executeInv q s).progError = s.progError
      ∧ (executeInv q s).trace = s.trace ∧ (executeInv q s).freeCount = s.freeCount
      ∧ (executeInv q s).pending = s.pending := by
  simp [executeInv]

@[simp] theorem executeInv_accessors (q : InvCommand) (s : State) :
    (∀ j, (executeInv q s).aperture j = s.aperture j)
      ∧ (∀ j, (executeInv q s).port j = s.port j)
      ∧ (∀ j, (executeInv q s).queue j = s.queue j) := by
  simp [State.aperture, State.port, State.queue]

@[simp] theorem judgeInv_frame (q : InvCommand) (s : State) :
    (judgeInv q s).resetLow = s.resetLow ∧ (judgeInv q s).passLatched = s.passLatched
      ∧ (judgeInv q s).apertures = s.apertures ∧ (judgeInv q s).ports = s.ports ∧ (judgeInv q s).queues = s.queues
      ∧ (judgeInv q s).regions = s.regions ∧ (judgeInv q s).readySeq = s.readySeq ∧ (judgeInv q s).park = s.park
      ∧ (judgeInv q s).inFlight = s.inFlight ∧ (judgeInv q s).rrPointer = s.rrPointer
      ∧ (judgeInv q s).staging = s.staging ∧ (judgeInv q s).invQueue = s.invQueue
      ∧ (judgeInv q s).fenceWaiting = s.fenceWaiting ∧ (judgeInv q s).fenceCounter = s.fenceCounter
      ∧ (judgeInv q s).fenceToken = s.fenceToken ∧ (judgeInv q s).log = s.log ∧ (judgeInv q s).overflow = s.overflow
      ∧ (judgeInv q s).enables = s.enables ∧ (judgeInv q s).globalEnable = s.globalEnable
      ∧ (judgeInv q s).parkTimeout = s.parkTimeout ∧ (judgeInv q s).progError = s.progError
      ∧ (judgeInv q s).trace = s.trace ∧ (judgeInv q s).freeCount = s.freeCount ∧ (judgeInv q s).pending = s.pending := by
  unfold judgeInv
  repeat' split
  all_goals simp

@[simp] theorem judgeInv_accessors (q : InvCommand) (s : State) :
    (∀ j, (judgeInv q s).aperture j = s.aperture j)
      ∧ (∀ j, (judgeInv q s).port j = s.port j)
      ∧ (∀ j, (judgeInv q s).queue j = s.queue j) := by
  simp [State.aperture, State.port, State.queue]

@[simp] theorem startFence_frame (s : State) :
    (startFence s).resetLow = s.resetLow ∧ (startFence s).passLatched = s.passLatched
      ∧ (startFence s).apertures = s.apertures ∧ (startFence s).ports = s.ports
      ∧ (startFence s).pageCache = s.pageCache ∧ (startFence s).dirCache = s.dirCache
      ∧ (startFence s).regions = s.regions ∧ (startFence s).contexts = s.contexts
      ∧ (startFence s).readySeq = s.readySeq ∧ (startFence s).park = s.park ∧ (startFence s).rrPointer = s.rrPointer
      ∧ (startFence s).staging = s.staging ∧ (startFence s).invQueue = s.invQueue
      ∧ (startFence s).fenceToken = s.fenceToken ∧ (startFence s).log = s.log ∧ (startFence s).overflow = s.overflow
      ∧ (startFence s).causes = s.causes ∧ (startFence s).enables = s.enables
      ∧ (startFence s).globalEnable = s.globalEnable ∧ (startFence s).parkTimeout = s.parkTimeout
      ∧ (startFence s).progError = s.progError ∧ (startFence s).trace = s.trace
      ∧ (startFence s).freeCount = s.freeCount ∧ (startFence s).pending = s.pending := by
  simp [startFence]

@[simp] theorem startFence_accessors (s : State) :
    (∀ j, (startFence s).aperture j = s.aperture j)
      ∧ (∀ j, (startFence s).port j = s.port j)
      ∧ (∀ j, (startFence s).context j = s.context j) := by
  simp [State.aperture, State.port, State.context]

@[simp] theorem completeFence_frame (q : InvCommand) (l : List InvCommand) (s : State) :
    (completeFence q l s).resetLow = s.resetLow ∧ (completeFence q l s).passLatched = s.passLatched
      ∧ (completeFence q l s).apertures = s.apertures ∧ (completeFence q l s).ports = s.ports
      ∧ (completeFence q l s).queues = s.queues ∧ (completeFence q l s).pageCache = s.pageCache
      ∧ (completeFence q l s).dirCache = s.dirCache ∧ (completeFence q l s).regions = s.regions
      ∧ (completeFence q l s).contexts = s.contexts ∧ (completeFence q l s).readySeq = s.readySeq
      ∧ (completeFence q l s).park = s.park ∧ (completeFence q l s).inFlight = s.inFlight
      ∧ (completeFence q l s).rrPointer = s.rrPointer ∧ (completeFence q l s).staging = s.staging
      ∧ (completeFence q l s).fenceCounter = s.fenceCounter ∧ (completeFence q l s).log = s.log
      ∧ (completeFence q l s).overflow = s.overflow ∧ (completeFence q l s).enables = s.enables
      ∧ (completeFence q l s).globalEnable = s.globalEnable ∧ (completeFence q l s).parkTimeout = s.parkTimeout
      ∧ (completeFence q l s).progError = s.progError ∧ (completeFence q l s).trace = s.trace
      ∧ (completeFence q l s).freeCount = s.freeCount ∧ (completeFence q l s).pending = s.pending := by
  unfold completeFence
  dsimp only
  split <;> simp

@[simp] theorem completeFence_accessors (q : InvCommand) (l : List InvCommand) (s : State) :
    (∀ j, (completeFence q l s).aperture j = s.aperture j)
      ∧ (∀ j, (completeFence q l s).port j = s.port j)
      ∧ (∀ j, (completeFence q l s).queue j = s.queue j)
      ∧ (∀ j, (completeFence q l s).context j = s.context j) := by
  simp [State.aperture, State.port, State.queue, State.context]

@[simp] theorem issue_frame (x : AccessRecord) (a : BusAccess) (s : State) :
    (issue x a s).resetLow = s.resetLow ∧ (issue x a s).passLatched = s.passLatched
      ∧ (issue x a s).apertures = s.apertures ∧ (issue x a s).ports = s.ports ∧ (issue x a s).queues = s.queues
      ∧ (issue x a s).pageCache = s.pageCache ∧ (issue x a s).dirCache = s.dirCache
      ∧ (issue x a s).regions = s.regions ∧ (issue x a s).contexts = s.contexts ∧ (issue x a s).readySeq = s.readySeq
      ∧ (issue x a s).park = s.park ∧ (issue x a s).rrPointer = s.rrPointer ∧ (issue x a s).staging = s.staging
      ∧ (issue x a s).invQueue = s.invQueue ∧ (issue x a s).fenceWaiting = s.fenceWaiting
      ∧ (issue x a s).fenceCounter = s.fenceCounter ∧ (issue x a s).fenceToken = s.fenceToken
      ∧ (issue x a s).log = s.log ∧ (issue x a s).overflow = s.overflow ∧ (issue x a s).causes = s.causes
      ∧ (issue x a s).enables = s.enables ∧ (issue x a s).globalEnable = s.globalEnable
      ∧ (issue x a s).parkTimeout = s.parkTimeout ∧ (issue x a s).progError = s.progError
      ∧ (issue x a s).freeCount = s.freeCount ∧ (issue x a s).pending = s.pending := by
  simp [issue]

@[simp] theorem issue_accessors (x : AccessRecord) (a : BusAccess) (s : State) :
    (∀ j, (issue x a s).aperture j = s.aperture j)
      ∧ (∀ j, (issue x a s).port j = s.port j)
      ∧ (∀ j, (issue x a s).queue j = s.queue j)
      ∧ (∀ j, (issue x a s).context j = s.context j) := by
  simp [State.aperture, State.port, State.queue, State.context]

@[simp] theorem reportMemory_frame (k : FaultKind) (a : AccessKind) (r : ItemRecord) (s : State) :
    (reportMemory k a r s).resetLow = s.resetLow ∧ (reportMemory k a r s).passLatched = s.passLatched
      ∧ (reportMemory k a r s).apertures = s.apertures ∧ (reportMemory k a r s).ports = s.ports
      ∧ (reportMemory k a r s).queues = s.queues ∧ (reportMemory k a r s).pageCache = s.pageCache
      ∧ (reportMemory k a r s).dirCache = s.dirCache ∧ (reportMemory k a r s).regions = s.regions
      ∧ (reportMemory k a r s).contexts = s.contexts ∧ (reportMemory k a r s).readySeq = s.readySeq
      ∧ (reportMemory k a r s).park = s.park ∧ (reportMemory k a r s).inFlight = s.inFlight
      ∧ (reportMemory k a r s).rrPointer = s.rrPointer ∧ (reportMemory k a r s).staging = s.staging
      ∧ (reportMemory k a r s).invQueue = s.invQueue ∧ (reportMemory k a r s).fenceWaiting = s.fenceWaiting
      ∧ (reportMemory k a r s).fenceCounter = s.fenceCounter ∧ (reportMemory k a r s).fenceToken = s.fenceToken
      ∧ (reportMemory k a r s).enables = s.enables ∧ (reportMemory k a r s).globalEnable = s.globalEnable
      ∧ (reportMemory k a r s).parkTimeout = s.parkTimeout ∧ (reportMemory k a r s).progError = s.progError
      ∧ (reportMemory k a r s).trace = s.trace ∧ (reportMemory k a r s).freeCount = s.freeCount
      ∧ (reportMemory k a r s).pending = s.pending := by
  simp [reportMemory]

@[simp] theorem reportMemory_accessors (k : FaultKind) (a : AccessKind) (r : ItemRecord) (s : State) :
    (∀ j, (reportMemory k a r s).aperture j = s.aperture j)
      ∧ (∀ j, (reportMemory k a r s).port j = s.port j)
      ∧ (∀ j, (reportMemory k a r s).queue j = s.queue j)
      ∧ (∀ j, (reportMemory k a r s).context j = s.context j) := by
  simp [State.aperture, State.port, State.queue, State.context]

@[simp] theorem readDone_frame (r : ItemRecord) (x : BusResult) (s : State) :
    (readDone r x s).resetLow = s.resetLow ∧ (readDone r x s).passLatched = s.passLatched
      ∧ (readDone r x s).apertures = s.apertures ∧ (readDone r x s).queues = s.queues
      ∧ (readDone r x s).pageCache = s.pageCache ∧ (readDone r x s).dirCache = s.dirCache
      ∧ (readDone r x s).regions = s.regions ∧ (readDone r x s).contexts = s.contexts
      ∧ (readDone r x s).readySeq = s.readySeq ∧ (readDone r x s).park = s.park
      ∧ (readDone r x s).inFlight = s.inFlight ∧ (readDone r x s).rrPointer = s.rrPointer
      ∧ (readDone r x s).staging = s.staging ∧ (readDone r x s).invQueue = s.invQueue
      ∧ (readDone r x s).fenceWaiting = s.fenceWaiting ∧ (readDone r x s).fenceCounter = s.fenceCounter
      ∧ (readDone r x s).fenceToken = s.fenceToken ∧ (readDone r x s).enables = s.enables
      ∧ (readDone r x s).globalEnable = s.globalEnable ∧ (readDone r x s).parkTimeout = s.parkTimeout
      ∧ (readDone r x s).progError = s.progError ∧ (readDone r x s).trace = s.trace
      ∧ (readDone r x s).freeCount = s.freeCount ∧ (readDone r x s).pending = s.pending := by
  unfold readDone
  split <;> simp

@[simp] theorem readDone_accessors (r : ItemRecord) (x : BusResult) (s : State) :
    (∀ j, (readDone r x s).aperture j = s.aperture j)
      ∧ (∀ j, (readDone r x s).queue j = s.queue j)
      ∧ (∀ j, (readDone r x s).context j = s.context j) := by
  simp [State.aperture, State.queue, State.context]

@[simp] theorem writeDone_frame (r : ItemRecord) (x : BusResult) (s : State) :
    (writeDone r x s).resetLow = s.resetLow ∧ (writeDone r x s).passLatched = s.passLatched
      ∧ (writeDone r x s).apertures = s.apertures ∧ (writeDone r x s).pageCache = s.pageCache
      ∧ (writeDone r x s).dirCache = s.dirCache ∧ (writeDone r x s).regions = s.regions
      ∧ (writeDone r x s).contexts = s.contexts ∧ (writeDone r x s).readySeq = s.readySeq
      ∧ (writeDone r x s).park = s.park ∧ (writeDone r x s).inFlight = s.inFlight
      ∧ (writeDone r x s).rrPointer = s.rrPointer ∧ (writeDone r x s).staging = s.staging
      ∧ (writeDone r x s).invQueue = s.invQueue ∧ (writeDone r x s).fenceWaiting = s.fenceWaiting
      ∧ (writeDone r x s).fenceCounter = s.fenceCounter ∧ (writeDone r x s).fenceToken = s.fenceToken
      ∧ (writeDone r x s).enables = s.enables ∧ (writeDone r x s).globalEnable = s.globalEnable
      ∧ (writeDone r x s).parkTimeout = s.parkTimeout ∧ (writeDone r x s).progError = s.progError
      ∧ (writeDone r x s).trace = s.trace ∧ (writeDone r x s).freeCount = s.freeCount
      ∧ (writeDone r x s).pending = s.pending := by
  unfold writeDone
  dsimp only
  repeat' split
  all_goals simp

@[simp] theorem writeDone_accessors (r : ItemRecord) (x : BusResult) (s : State) :
    (∀ j, (writeDone r x s).aperture j = s.aperture j)
      ∧ (∀ j, (writeDone r x s).context j = s.context j) := by
  simp [State.aperture, State.context]

@[simp] theorem setResult_frame (n : ApertureId) (r : LastResult) (s : State) :
    (setResult n r s).resetLow = s.resetLow ∧ (setResult n r s).passLatched = s.passLatched
      ∧ (setResult n r s).ports = s.ports ∧ (setResult n r s).queues = s.queues
      ∧ (setResult n r s).pageCache = s.pageCache ∧ (setResult n r s).dirCache = s.dirCache
      ∧ (setResult n r s).regions = s.regions ∧ (setResult n r s).contexts = s.contexts
      ∧ (setResult n r s).readySeq = s.readySeq ∧ (setResult n r s).park = s.park
      ∧ (setResult n r s).inFlight = s.inFlight ∧ (setResult n r s).rrPointer = s.rrPointer
      ∧ (setResult n r s).staging = s.staging ∧ (setResult n r s).invQueue = s.invQueue
      ∧ (setResult n r s).fenceWaiting = s.fenceWaiting ∧ (setResult n r s).fenceCounter = s.fenceCounter
      ∧ (setResult n r s).fenceToken = s.fenceToken ∧ (setResult n r s).log = s.log
      ∧ (setResult n r s).overflow = s.overflow ∧ (setResult n r s).causes = s.causes
      ∧ (setResult n r s).enables = s.enables ∧ (setResult n r s).globalEnable = s.globalEnable
      ∧ (setResult n r s).parkTimeout = s.parkTimeout ∧ (setResult n r s).progError = s.progError
      ∧ (setResult n r s).trace = s.trace ∧ (setResult n r s).freeCount = s.freeCount
      ∧ (setResult n r s).pending = s.pending := by
  simp [setResult]

@[simp] theorem setResult_accessors (n : ApertureId) (r : LastResult) (s : State) :
    (∀ j, (setResult n r s).port j = s.port j)
      ∧ (∀ j, (setResult n r s).queue j = s.queue j)
      ∧ (∀ j, (setResult n r s).context j = s.context j) := by
  simp [State.port, State.queue, State.context]

@[simp] theorem refuseCommand_frame (n : ApertureId) (s : State) :
    (refuseCommand n s).resetLow = s.resetLow ∧ (refuseCommand n s).passLatched = s.passLatched
      ∧ (refuseCommand n s).ports = s.ports ∧ (refuseCommand n s).queues = s.queues
      ∧ (refuseCommand n s).pageCache = s.pageCache ∧ (refuseCommand n s).dirCache = s.dirCache
      ∧ (refuseCommand n s).regions = s.regions ∧ (refuseCommand n s).contexts = s.contexts
      ∧ (refuseCommand n s).readySeq = s.readySeq ∧ (refuseCommand n s).park = s.park
      ∧ (refuseCommand n s).inFlight = s.inFlight ∧ (refuseCommand n s).rrPointer = s.rrPointer
      ∧ (refuseCommand n s).staging = s.staging ∧ (refuseCommand n s).invQueue = s.invQueue
      ∧ (refuseCommand n s).fenceWaiting = s.fenceWaiting ∧ (refuseCommand n s).fenceCounter = s.fenceCounter
      ∧ (refuseCommand n s).fenceToken = s.fenceToken ∧ (refuseCommand n s).log = s.log
      ∧ (refuseCommand n s).overflow = s.overflow ∧ (refuseCommand n s).enables = s.enables
      ∧ (refuseCommand n s).globalEnable = s.globalEnable ∧ (refuseCommand n s).parkTimeout = s.parkTimeout
      ∧ (refuseCommand n s).progError = s.progError ∧ (refuseCommand n s).trace = s.trace
      ∧ (refuseCommand n s).freeCount = s.freeCount ∧ (refuseCommand n s).pending = s.pending := by
  simp [refuseCommand]

@[simp] theorem refuseCommand_accessors (n : ApertureId) (s : State) :
    (∀ j, (refuseCommand n s).port j = s.port j)
      ∧ (∀ j, (refuseCommand n s).queue j = s.queue j)
      ∧ (∀ j, (refuseCommand n s).context j = s.context j) := by
  simp [State.port, State.queue, State.context]

end Sys2Proof.Machine
end

