-- ==== Sys2Proof/Laws/Queue.lean ====
section
/-! SUPPORT. What the handling of the invalidation queue's head does, in the words of the statements (`InvKind.row`,
`HandledFrom`, `fenceCompleted`). A proof about an event that makes a command the head cites these instead of unfolding
`handleHead`. -/

namespace Sys2Proof.Machine

/-- The row of a kind is the handling of a head of that kind. -/
theorem exec_row (k : InvKind) (s : State) : exec k.row s = whenReleased s (handleHeadOfKind k) := by
  cases k <;> rfl

theorem handleHead_nil {s : State} (empty : s.invQueue = []) : handleHead [] s = s := by
  cases s; simp_all [handleHead]

/-- Handling the whole queue of `u` is handling its first command by its row. -/
theorem handledFrom_handleHead {u : State} (high : u.resetLow = false) (idle : u.fenceWaiting = false) :
    HandledFrom (.next (handleHead u.invQueue u)) u := by
  refine ⟨fun empty => ?_, fun q rest queue => ?_⟩
  · rw [empty, handleHead_nil empty]
  · simp [exec_row, whenReleased, handleHeadOfKind, high, idle, queue]

/-- A fence completion whose counter is 0, in the words of the statements. -/
theorem completeFence_eq {s : State} (zero : s.fenceCounter = 0) (q : InvCommand) (rest : List InvCommand) :
    completeFence q rest s = s.fenceCompleted q rest := by
  cases s; simp only at zero; subst zero
  cases interrupt : q.interrupt
  · simp [completeFence, State.fenceCompleted, interrupt]
  · simp [completeFence, State.fenceCompleted, interrupt, setCause]
    rfl

end Sys2Proof.Machine
end

