-- ==== Sys2Proof/Laws/Requests.lean ====
section
/-! SUPPORT. What the laws of the requests and of the counts depend on, and what the eligible items of a master are. A proof
that an operation keeps a law cites these instead of unfolding the definitions. -/

namespace Sys2Proof.Machine

/-! ## The laws of the requests and of the counts -/

theorem State.outstanding_congr {s t : State} {m : Master} (park : t.park = s.park) (queue : t.queue m = s.queue m)
    (flight : t.inFlight = s.inFlight) (port : (t.port m).completions = (s.port m).completions) :
    t.outstanding m = s.outstanding m := by
  simp only [State.outstanding, park, queue, flight, port]

theorem State.writeRecords_congr {s t : State} {m : Master} (flight : t.inFlight = s.inFlight) :
    t.writeRecords m = s.writeRecords m := by
  simp only [State.writeRecords, flight]

theorem State.unretired_congr {s t : State} {n : ApertureId} (park : t.park = s.park) (queues : t.queues = s.queues)
    (flight : t.inFlight = s.inFlight) : t.unretired n = s.unretired n := by
  simp only [State.unretired, State.queue, park, queues, flight]

/-- An operation that leaves the park table, the issue queues, the in-flight list and the ports keeps the law of the
requests. -/
theorem RequestLaw.of_same {s t : State} (h : RequestLaw s) (park : t.park = s.park) (queues : t.queues = s.queues)
    (flight : t.inFlight = s.inFlight) (ports : t.ports = s.ports) : RequestLaw t := by
  have queue (m : Master) : t.queue m = s.queue m := by simp only [State.queue, queues]
  have port (m : Master) : t.port m = s.port m := by simp only [State.port, ports]
  have out (m : Master) : t.outstanding m = s.outstanding m :=
    State.outstanding_congr park (queue m) flight (by rw [port])
  constructor
  · simpa only [ParkLaw, park] using h.slots
  · simpa only [SweptLaw, park, queue, port] using h.swept
  · simpa only [out] using h.distinct
  · simpa only [out, port] using h.inUse
  · simpa only [park, port] using h.parkedKinds
  · simpa only [queue, port] using h.readKinds
  · simpa only [queue, port] using h.writeKinds
  · simpa only [flight, port] using h.flightKinds
  · simpa only [port] using h.completionKinds
  · simpa only [out, port] using h.settled
  · simpa only [queue, park] using h.holes
  · simpa only [queue] using h.front
  · simpa only [queue, State.writeRecords_congr flight] using h.issued
  · simpa only [queue] using h.room

/-- An operation that leaves the park table, the issue queues, the in-flight list and every count keeps the law of the
counts. -/
theorem CountLaw.of_same {s t : State} (h : CountLaw s) (park : t.park = s.park) (queues : t.queues = s.queues)
    (flight : t.inFlight = s.inFlight) (counts : ∀ n, (t.aperture n).count = (s.aperture n).count) : CountLaw t := by
  intro n
  rw [counts, State.unretired_congr park queues flight]
  exact h n

/-! ## Eligible items (R114 to R116) -/

theorem WriteEntry.isIssued_iff (e : WriteEntry) : e.isIssued = true ↔ ∃ p, e.state = .issued p := by
  cases h : e.state <;> simp [WriteEntry.isIssued, h]

theorem WriteEntry.isTranslated_iff (e : WriteEntry) : e.isTranslated = true ↔ ∃ p, e.state = .translated p := by
  cases h : e.state <;> simp [WriteEntry.isTranslated, h]

/-- The eligible write is the Translated entry with every entry ahead of it Issued. -/
theorem IssueQueues.eligibleWrite_eq_some (q : IssueQueues) (e : WriteEntry) :
    q.eligibleWrite = some e ↔ (∃ p, e.state = .translated p) ∧
      ∃ front back, q.writes = front ++ e :: back ∧ ∀ y ∈ front, ∃ p, y.state = .issued p := by
  constructor
  · intro h
    simp only [IssueQueues.eligibleWrite] at h
    split at h
    · rename_i f found
      split at h
      · cases h
        obtain ⟨_, front, back, split, ahead⟩ := List.find?_eq_some_iff_append.1 found
        exact ⟨(WriteEntry.isTranslated_iff _).1 ‹_›, front, back, split,
          fun y hy => (WriteEntry.isIssued_iff y).1 (by simpa using ahead y hy)⟩
      · cases h
    · cases h
  · rintro ⟨⟨p, hp⟩, front, back, split, ahead⟩
    have found : q.writes.find? (!·.isIssued) = some e :=
      List.find?_eq_some_iff_append.2 ⟨by simp [WriteEntry.isIssued, hp], front, back, split,
        fun y hy => by simpa using (WriteEntry.isIssued_iff y).2 (ahead y hy)⟩
    simp [IssueQueues.eligibleWrite, found, (WriteEntry.isTranslated_iff e).2 ⟨p, hp⟩]

theorem IssueQueues.not_holds_iff (q : IssueQueues) (e : ReadEntry) : q.holds e = false ↔
    ∀ w ∈ q.writes, w.arrival < e.arrival → w.address.toNat / 64 ≠ e.address.toNat / 64 := by
  simp [IssueQueues.holds, sameLine]

theorem earliestRead_eq_none (l : List ReadEntry) : earliestRead l = none ↔ l = [] := by
  cases l with
  | nil => simp [earliestRead]
  | cons e es => simp only [earliestRead]; split <;> (try split) <;> simp

/-- The earliest-taken read of a list is in it, and no other is earlier-taken. -/
theorem earliestRead_spec (l : List ReadEntry) (e : ReadEntry) (h : earliestRead l = some e) :
    e ∈ l ∧ ∀ f ∈ l, e.arrival ≤ f.arrival := by
  induction l generalizing e with
  | nil => cases h
  | cons a l ih =>
    simp only [earliestRead] at h
    split at h
    · rename_i none
      cases h
      simp [(earliestRead_eq_none l).1 none]
    · rename_i f some
      obtain ⟨mem, least⟩ := ih f some
      split at h <;> cases h <;> simp only [List.mem_cons, forall_eq_or_imp] <;> grind

end Sys2Proof.Machine
end

