-- ==== Sys2Proof/Laws/Retirement.lean ====
section
/-! SUPPORT. What retirements do: one retirement, and several one after another, in the words of the statements (`drainEnds`,
`Retired`, `retiredCauses`). A proof about an event that retires requests cites these instead of unfolding `retire`. -/

namespace Sys2Proof.Machine

/-! ## The end of a drain -/

theorem State.walkBusyFor_eq (s : State) (n : ApertureId) :
    s.walkBusyFor n = !(([0, 1] : List ContextId).all fun d => (s.context d).all (·.aperture ≠ n)) := by
  have both (v : Vector (Option Walk) 2) : v.toList = [v[(0 : ContextId)], v[(1 : ContextId)]] := by
    obtain ⟨⟨l⟩, h⟩ := v
    match l, h with
    | [_, _], _ => rfl
  simp only [State.walkBusyFor, State.context, both, List.all_cons, List.all_nil]
  generalize s.contexts[(0 : ContextId)] = a
  generalize s.contexts[(1 : ContextId)] = b
  cases a <;> cases b <;> simp

theorem State.drainEnds_eq (s : State) (n : ApertureId) (k : Nat) :
    s.drainEnds n k = ((s.aperture n).state = .draining && 0 < k && (s.aperture n).count ≤ k && !s.walkBusyFor n) := by
  simp [State.drainEnds, State.walkBusyFor_eq]

@[simp] theorem State.drainEnds_zero (s : State) (n : ApertureId) : s.drainEnds n 0 = false := by
  simp [State.drainEnds]

theorem State.walkBusyFor_congr {s t : State} (h : t.contexts = s.contexts) (n : ApertureId) :
    t.walkBusyFor n = s.walkBusyFor n := by
  simp only [State.walkBusyFor, h]

/-! ## Retirements -/

/-- No request retires. -/
theorem Retired.refl (s : State) : Retired (fun _ => 0) s s where
  apertures := by simp
  pages := by simp
  dirs := by simp

/-- `Retired` looks at the descriptors, the caches and the walk contexts alone. -/
theorem Retired.congr {k : ApertureId → Nat} {s s' t t' : State} (h : Retired k s t)
    (apertures : s'.apertures = s.apertures) (contexts : s'.contexts = s.contexts)
    (pages : s'.pageCache = s.pageCache) (dirs : s'.dirCache = s.dirCache)
    (apertures' : t'.apertures = t.apertures) (pages' : t'.pageCache = t.pageCache) (dirs' : t'.dirCache = t.dirCache) :
    Retired k s' t' := by
  have before (n : ApertureId) : s'.aperture n = s.aperture n := by simp only [State.aperture, apertures]
  have after (n : ApertureId) : t'.aperture n = t.aperture n := by simp only [State.aperture, apertures']
  have ends (n : ApertureId) (j : Nat) : s'.drainEnds n j = s.drainEnds n j := by
    simp only [State.drainEnds_eq, before, State.walkBusyFor_congr contexts]
  constructor
  · simpa only [before, after, ends] using h.apertures
  · simpa only [pages, pages', ends] using h.pages
  · simpa only [dirs, dirs', ends] using h.dirs

/-- Whether a drain ends is settled by the total of the requests that retire. -/
theorem Retired.drainEnds_trans {k : ApertureId → Nat} {s t : State} (h : Retired k s t)
    (contexts : t.contexts = s.contexts) (n : ApertureId) (j : Nat) :
    s.drainEnds n (k n + j) = (s.drainEnds n (k n) || t.drainEnds n j) := by
  rw [State.drainEnds_eq, State.drainEnds_eq, State.drainEnds_eq, State.walkBusyFor_congr contexts, h.apertures,
    State.drainEnds_eq]
  cases s.walkBusyFor n <;> cases hs : (s.aperture n).state <;> simp
  by_cases hk : 0 < k n <;> by_cases hj : 0 < j <;> by_cases hc : (s.aperture n).count ≤ k n <;> simp [*] <;> grind

/-- Retirements one after another retire the sum. -/
theorem Retired.trans {k j : ApertureId → Nat} {s t u : State} (h : Retired k s t) (contexts : t.contexts = s.contexts)
    (h' : Retired j t u) : Retired (fun n => k n + j n) s u where
  apertures n := by
    rw [h'.apertures, h.drainEnds_trans contexts, h.apertures]
    cases s.drainEnds n (k n) <;> cases t.drainEnds n (j n) <;> simp [Nat.sub_sub]
  pages := by
    rw [h'.pages, h.pages, List.filter_filter]
    congr 1; funext e
    rw [h.drainEnds_trans contexts]
    cases s.drainEnds e.aperture (k e.aperture) <;> simp
  dirs := by
    rw [h'.dirs, h.dirs, List.filter_filter]
    congr 1; funext e
    rw [h.drainEnds_trans contexts]
    cases s.drainEnds e.aperture (k e.aperture) <;> simp

/-- The cause of the drains that end, over retirements one after another. -/
theorem Retired.causes_trans {k j : ApertureId → Nat} {s t : State} (h : Retired k s t)
    (contexts : t.contexts = s.contexts) (v : BitVec 10) :
    t.retiredCauses j (s.retiredCauses k v) = s.retiredCauses (fun n => k n + j n) v := by
  have ends : (∃ n, s.drainEnds n (k n + j n) = true) ↔
      (∃ n, s.drainEnds n (k n) = true) ∨ ∃ n, t.drainEnds n (j n) = true := by
    simp only [h.drainEnds_trans contexts, Bool.or_eq_true, exists_or]
  unfold State.retiredCauses
  rw [if_congr ends rfl rfl]
  by_cases hs : ∃ n, s.drainEnds n (k n) = true <;> by_cases ht : ∃ n, t.drainEnds n (j n) = true <;>
    simp [hs, ht, BitVec.or_assoc]

/-! ## The operation `retire` -/

theorem lowerCount_aperture (n o : ApertureId) (s : State) : (lowerCount n s).aperture o =
    if o = n then { s.aperture n with count := (s.aperture n).count - 1 } else s.aperture o := by
  simp [lowerCount]

theorem closeNow_aperture (n o : ApertureId) (s : State) : (closeNow n s).aperture o =
    if o = n then { s.aperture n with state := .closed } else s.aperture o :=
  s.aperture_setAperture n o _

/-- The drain of `n` ends as one request retires exactly where the test that follows closes it. -/
theorem retire_eq (n : ApertureId) (s : State) :
    retire n s = if s.drainEnds n 1 then closeNow n (lowerCount n s) else lowerCount n s := by
  have busy : (lowerCount n s).walkBusyFor n = s.walkBusyFor n := State.walkBusyFor_congr (by simp) n
  have count : (decide ((s.aperture n).count - 1 = 0)) = decide ((s.aperture n).count ≤ 1) := by
    simp [Nat.sub_eq_zero_iff_le]
  simp only [retire, drainTest, State.drained, busy, State.drainEnds_eq]
  simp [lowerCount, count, Bool.and_assoc]

/-- One retirement: the count of `n` falls by 1, and with the end of a drain `n` is Closed, its entries are removed and
ApertureClosed is set (R21, R24, R66). -/
theorem retire_retired (n : ApertureId) (s : State) :
    Retired (fun o => if o = n then 1 else 0) s (retire n s) ∧
      (retire n s).causes = s.retiredCauses (fun o => if o = n then 1 else 0) s.causes := by
  have only (o : ApertureId) : s.drainEnds o (if o = n then 1 else 0) = if o = n then s.drainEnds n 1 else false := by
    split
    · rename_i h; rw [h]
    · simp
  have any : (∃ o, s.drainEnds o (if o = n then 1 else 0) = true) ↔ s.drainEnds n 1 = true :=
    ⟨fun ⟨o, h⟩ => by rw [only] at h; split at h <;> simp_all, fun h => ⟨n, by rw [only]; simpa using h⟩⟩
  rw [retire_eq]
  unfold State.retiredCauses
  rw [if_congr any rfl rfl]
  cases ends : s.drainEnds n 1 <;> simp only [Bool.false_eq_true, if_false, if_true]
  · refine ⟨⟨fun o => ?_, ?_, ?_⟩, ?_⟩
    · rw [only, ends]; by_cases h : o = n <;> simp [lowerCount_aperture, h]
    · simp [only, ends]
    · simp [only, ends]
    · simp
  · refine ⟨⟨fun o => ?_, ?_, ?_⟩, ?_⟩
    · rw [only, ends]; by_cases h : o = n <;> simp [closeNow_aperture, lowerCount_aperture, h]
    · simp only [only, ends]; simp [closeNow]; rfl
    · simp only [only, ends]; simp [closeNow]; rfl
    · simp [closeNow, setCause]; rfl

/-- Retirements in a row, one for each aperture of a list. -/
theorem foldl_retire_retired (l : List ApertureId) (s : State) :
    Retired (fun o => l.count o) s (l.foldl (fun t n => retire n t) s) ∧
      (l.foldl (fun t n => retire n t) s).causes = s.retiredCauses (fun o => l.count o) s.causes := by
  induction l generalizing s with
  | nil =>
    simp only [List.foldl_nil, List.count_nil]
    exact ⟨.refl s, by simp [State.retiredCauses]⟩
  | cons n l ih =>
    have same : (retire n s).contexts = s.contexts := by simp
    obtain ⟨h, c⟩ := retire_retired n s
    obtain ⟨h', c'⟩ := ih (retire n s)
    have sum : (fun o => (n :: l).count o) = fun o => (if o = n then 1 else 0) + l.count o := by
      funext o; rw [List.count_cons, Nat.add_comm]; congr 1; by_cases h : o = n <;> simp [h, eq_comm (a := n)]
    rw [List.foldl_cons, sum]
    exact ⟨h.trans same h', by rw [c', c, h.causes_trans same]⟩

end Sys2Proof.Machine
end

