-- ==== Sys2Proof/Laws/Takeover.lean ====
section
/-! SUPPORT. What a walk completion leaves of the park table, and that the bound of `takeover` never matters: any bound of at
least the number of Queued slots gives the same state. A proof about a chain of starts cites these instead of counting rounds. -/

namespace Sys2Proof.Machine

/-! ## The park table after a walk completion -/

theorem faultByWalk_park (f : WalkFault) (s : State) (k : ParkSlot) :
    (faultByWalk f s k).park = s.park.filter (·.num != k.num) := by
  simp [faultByWalk, faultWaiter, freeSlot]

theorem serveWaiter_park (f : Frame) (a : MapAccess) (s : State) (k : ParkSlot) :
    (serveWaiter f a s k).park = s.park.filter (·.num != k.num) := by
  simp only [serveWaiter]
  split
  · simp only [passWaiter, freeSlot]; split <;> simp
  · simp [faultWaiter, freeSlot]

/-- Slots only leave while a list of them is settled. -/
theorem park_sublist_of_foldl (f : State → ParkSlot → State) (step : ∀ s k, ((f s k).park).Sublist s.park)
    (l : List ParkSlot) (s : State) : ((l.foldl f s).park).Sublist s.park := by
  induction l generalizing s with
  | nil => exact .refl _
  | cons k l ih => exact (ih (f s k)).trans (step s k)

/-- Settling a walk's waiters adds no slot and changes none that stays. -/
theorem settleWalk_park_sublist (c : ContextId) (w : Walk) (r : WalkResult) (s : State) :
    ((settleWalk c w r s).1.park).Sublist s.park := by
  cases r with
  | discarded => exact .refl _
  | fault f =>
    simpa [settleWalk] using park_sublist_of_foldl (faultByWalk f)
      (fun s k => faultByWalk_park f s k ▸ List.filter_sublist) (s.waiters c) s
  | success f a keep =>
    let filled := fillPage w.aperture w.page f a keep s
    have h := park_sublist_of_foldl (serveWaiter f a)
      (fun s k => serveWaiter_park f a s k ▸ List.filter_sublist) (filled.waiters c) filled
    simpa [settleWalk, filled] using h

theorem judgeWalk_park_sublist (c : ContextId) (w : Walk) (r : WalkResult) (s : State) :
    ((judgeWalk c w r s).1.park).Sublist s.park := by
  unfold judgeWalk
  split
  · simp
  split
  · have same : (enterDirectory c { w with stale := false } s).1.park = s.park := by simp
    split <;> rename_i entry <;> rw [entry] at same
    · exact same ▸ .refl _
    · exact same ▸ settleWalk_park_sublist c w _ _
  · exact settleWalk_park_sublist c w r s

/-! ## The bound of `takeover` -/

theorem queuedSlots_le_of_park {s t : State} (h : t.park.Sublist s.park) :
    t.queuedSlots.length ≤ s.queuedSlots.length :=
  (h.filter _).length_le

/-- The oldest Queued slot joins, so that fewer are left. -/
theorem joinQueued_lt {s : State} {k : ParkSlot} {more : List ParkSlot} (c : ContextId)
    (queued : s.queuedSlots = k :: more) :
    (joinQueued c k.aperture k.page s).queuedSlots.length < s.queuedSlots.length := by
  have mem : k ∈ s.park ∧ k.placement = .queued := by
    have : k ∈ s.queuedSlots := by simp [queued]
    simpa [State.queuedSlots] using this
  have fewer (l : List ParkSlot) (f : ParkSlot → ParkSlot) (out : ∀ x, (f x).placement = .queued → x.placement = .queued) :
      ((l.map f).filter (·.placement = .queued)).length ≤ (l.filter (·.placement = .queued)).length ∧
      (∀ k ∈ l, k.placement = .queued → (f k).placement ≠ .queued →
        ((l.map f).filter (·.placement = .queued)).length < (l.filter (·.placement = .queued)).length) := by
    induction l with
    | nil => simp
    | cons x l ih =>
      have := out x
      by_cases hx : x.placement = .queued <;> by_cases hf : (f x).placement = .queued <;>
        simp only [List.map_cons, List.filter_cons, hx, hf, decide_true, decide_false, if_true, if_false, List.length_cons,
          List.mem_cons, forall_eq_or_imp, Bool.false_eq_true] <;> grind
  have := fewer s.park (fun x => if x.placement = .queued && x.aperture = k.aperture && x.page = k.page then
    { x with placement := .waiting c } else x) (by intro x; split <;> simp)
  exact this.2 k mem.1 mem.2 (by simp [mem.2])

/-- Any bound of at least the number of Queued slots gives the same takeover. -/
theorem takeover_bound (c : ContextId) (n : Nat) : ∀ (s : State) (i j : Nat), s.queuedSlots.length ≤ n →
    s.queuedSlots.length ≤ i → s.queuedSlots.length ≤ j → takeover i c s = takeover j c s := by
  induction n with
  | zero =>
    intro s i j none _ _
    have empty : s.queuedSlots = [] := List.length_eq_zero_iff.1 (Nat.le_zero.1 none)
    cases i <;> cases j <;> simp [takeover, empty]
  | succ n ih =>
    intro s i j some hi hj
    cases queued : s.queuedSlots with
    | nil => cases i <;> cases j <;> simp [takeover, queued]
    | cons k more =>
      rw [queued, List.length_cons] at hi hj
      obtain ⟨i, rfl⟩ : ∃ m, i = m + 1 := ⟨i - 1, by omega⟩
      obtain ⟨j, rfl⟩ : ∃ m, j = m + 1 := ⟨j - 1, by omega⟩
      have fewer := joinQueued_lt c queued
      have size : s.queuedSlots.length = more.length + 1 := by simp [queued]
      simp only [takeover, queued]
      have started : (startWalk c k.aperture k.page (joinQueued c k.aperture k.page s)).1.park =
        (joinQueued c k.aperture k.page s).park := by simp
      split
      · rfl
      · rename_i s1 r entry
        rw [entry] at started
        replace started : s1.park = _ := started
        split
        · rfl
        · rename_i w _
          have kept := judgeWalk_park_sublist c w r s1
          split
          · rfl
          · rename_i s2 judged
            rw [judged] at kept
            have left : (idleReport w.aperture s2).queuedSlots.length ≤
                (joinQueued c k.aperture k.page s).queuedSlots.length :=
              queuedSlots_le_of_park (by simpa [idleReport] using started ▸ kept)
            exact ih _ _ _ (by omega) (by omega) (by omega)

end Sys2Proof.Machine
end

