-- ==== Sys2Proof/Tests/Slice0.lean ====
section
/-! SUPPORT. The model's own tests: ill-formed commands, values that the manual works out, and, for every statement with
hypotheses, a state that meets them. Each is one small theorem. -/

set_option maxRecDepth 4000

namespace Sys2Proof.Machine

/-! ## Well-formedness -/

theorem test_wf_length_zero : Instr.wellFormed (.arrival 0 ⟨0, 0, .read 0⟩) = false := by decide
theorem test_wf_length_nine : Instr.wellFormed (.arrival 0 ⟨0, 0, .read 9⟩) = false := by decide
theorem test_wf_write_without_beats : Instr.wellFormed (.arrival 0 ⟨0, 0, .write []⟩) = false := by decide
theorem test_wf_length_eight : Instr.wellFormed (.arrival 0 ⟨0, 0, .read 8⟩) = true := by decide
theorem test_wf_no_lanes : Instr.wellFormed (.narrowWrite 0 0 0) = false := by decide
theorem test_wf_four_lanes : Instr.wellFormed (.narrowWrite 0 15 0) = false := by decide
theorem test_wf_three_lanes : Instr.wellFormed (.narrowWrite 0 14 0) = true := by decide
theorem test_wf_bad_command_names_resume : Instr.wellFormed (.badCommand 0 4) = false := by decide
theorem test_wf_bad_command_five : Instr.wellFormed (.badCommand 0 5) = true := by decide

/-! ## The states the tests use -/

/-- A2 of the worked example of chapter 1: 16 MiB at 0x4000_0000, Walked, 4 KiB pages, masters M1 and M3, Open. -/
def exampleWalked : Aperture :=
  { Aperture.reset with
    base := 0x40000000, sizeCode := 4, tableAddress := 0x12345670, masterMask := 10, state := .opened }

/-- A5 of the worked example of chapter 1: 2 MiB at 0x8000_0000, Linear, ReadOnly, here with masters M1 and M3, Open. -/
def exampleLinear : Aperture :=
  { Aperture.reset with
    base := 0x80000000, sizeCode := 1, mode := .linear, tableAddress := 0x00120000, linearAccess := .readOnly,
    masterMask := 10, state := .opened }

/-- The part after reset with A2 and A5 Open and the global Enable on. -/
def demo : State := { (State.reset.setAperture 2 exampleWalked).setAperture 5 exampleLinear with globalEnable := true }

/-- `demo` with A5 ReadWrite and posting. -/
def demoPosting : State := demo.setAperture 5 { exampleLinear with linearAccess := .readWrite, posting := true }

/-- M1's read of the worked example. -/
def exampleRead : Request := ⟨0, 0x40A35C48, .read 2⟩

/-- M1's read of A5's last line. -/
def linearRead : Request := ⟨1, 0x801FFFC0, .read 8⟩

/-- M1's write of A5's last line. -/
def linearWrite : Request := ⟨1, 0x801FFFC0, .write [⟨7, 255⟩]⟩

/-- A slot of M1's read of (A2, 2613), Waiting on context 0. -/
def exampleSlot : ParkSlot := ⟨0, 1, 0, .read, 2, 2613, 0x40A35C48, 2, 0, .waiting 0, 3, 0⟩

/-- M1's parked write of (A2, 2613), Waiting on context 0, in slot 1. -/
def exampleWriteSlot : ParkSlot := ⟨1, 1, 2, .write, 2, 2613, 0x40A35C80, 1, 1, .waiting 0, 3, 3⟩

/-- The write-order entry of `exampleWriteSlot`. -/
def exampleHole : WriteEntry := ⟨2, 1, 0x40A35C80, [⟨9, 255⟩], 2, .untranslated, false, false⟩

/-- The walk for (A2, 2613) in its directory phase. -/
def exampleWalk : Walk := ⟨.directoryRead, 2, 2613, .none, false, false⟩

/-- `demo` with M1's read parked on the walk in context 0, whose read is in state `read`. -/
def demoWalking (read : ReadState) : State :=
  { demo.setAperture 2 { exampleWalked with count := 1 } with
    park := [exampleSlot], contexts := #v[some { exampleWalk with read := read }, none], readySeq := 1 }

/-- `demo` with A2 Draining or Closed, or in another state. -/
def demoIn (x : ApertureState) : State := demo.setAperture 2 { exampleWalked with state := x }

/-- A record of M1's read of tag 0, in A2. -/
def exampleRecord : ItemRecord := ⟨1, 0, 2, 0x40A35C48, 0x03C07BC48, 2, false⟩

/-- `demo` with M1's read of the worked example in flight. -/
def demoReading (counted : Bool) : State :=
  { demo.setAperture 2 { exampleWalked with count := 1 } with
    inFlight := [.read { exampleRecord with counted := counted }] }

/-! ## Values that the manual works out -/

theorem test_decode_walked : demo.decode 0x40A35C48 = some 2 := by decide
theorem test_decode_past_the_end : demo.decode 0x41000000 = none := by decide
theorem test_decode_closed : (demoIn .closed).decode 0x40A35C48 = none := by decide
theorem test_page_index : exampleWalked.pageIndex 0x40A35C48 = 2613 := by decide
theorem test_page_index_64k : ({ exampleWalked with pageSize := .k64 } : Aperture).pageIndex 0x40A35C48 = 163 := by decide
theorem test_directory_entry_address : exampleWalk.entryAddress exampleWalked = 0x123456708 := by decide
theorem test_map_entry_address :
    ({ exampleWalk with phase := .blockRead 0x8812 } : Walk).entryAddress exampleWalked = 0x088128D4 := by decide
theorem test_walked_address : exampleWalked.walkedAddress 0x3C07B 0x40A35C48 = 0x3C07BC48 := by decide
theorem test_walked_address_64k :
    ({ exampleWalked with pageSize := .k64 } : Aperture).walkedAddress 0x3C070 0x40A35C48 = 0x3C075C48 := by decide
theorem test_linear_address : exampleLinear.linearAddress 0x801FFFC0 = 0x1201FFFC0 := by decide
theorem test_linear_address_does_not_wrap :
    ({ exampleLinear with tableAddress := 0xFFFFFF } : Aperture).linearAddress 0x80001000 / 4096 = 16777216 := by decide
/-- The manual's own sample word 0x0881_2001 does not fit bits 31 to 8 with block frame 0x0_8812; this word does (log 21). -/
theorem test_directory_entry : entryValid 0x00881201 = true ∧ entryFrame 0x00881201 = 0x8812 := by decide
theorem test_map_entry : entryValid 0x03C07B07 = true ∧ entryAccess 0x03C07B07 = .readWrite ∧
    entryKeep 0x03C07B07 = false ∧ entryFrame 0x03C07B07 = 0x3C07B := by decide
theorem test_guard_page : entryValid 0x03C07009 = true ∧ entryAccess 0x03C07009 = .noAccess ∧
    entryKeep 0x03C07009 = true ∧ entryFrame 0x03C07009 = 0x3C070 := by decide
theorem test_entry_halves : entryOfBeat 0x123456708 0x2222222211111111 = 0x11111111 ∧
    entryOfBeat 0x088128D4 0x2222222211111111 = 0x22222222 := by decide
theorem test_counts : exampleWalked.pages = 4096 ∧ exampleWalked.dirEntries = 4 ∧
    ({ exampleWalked with pageSize := .k64 } : Aperture).pages = 256 ∧
    ({ exampleWalked with pageSize := .k64 } : Aperture).dirEntries = 1 := by decide
theorem test_strap_attributes : Aperture.strapOpened.attributesWord = 0x003F0028 := by decide
theorem test_strap_status : Aperture.strapOpened.statusWord = 0x00000011 := by decide
theorem test_configuration : State.reset.configuration = 0x00201060 := by decide
theorem test_global_status : packWord [(3, 0), (2, 8), (6, 12), (0, 16), (2, 24)] = 0x02006203 := by decide
theorem test_region_example :
    let s : State := { State.reset with
      regions := #v[⟨0x100, .absent⟩, ⟨0x40000, .normal⟩, ⟨0x40400, .readOnly⟩, ⟨0x80000, .normal⟩] }
    s.classify 0xFF = .absent ∧ s.classify 0x100 = .normal ∧ s.classify 0x40200 = .readOnly ∧
    s.classify 0x7FFFF = .normal ∧ s.classify 0x80000 = .uncovered := by decide
theorem test_empty_region :
    let s : State := { State.reset with
      regions := #v[⟨0x100, .absent⟩, ⟨0x40000, .normal⟩, ⟨0x30000, .readOnly⟩, ⟨0x80000, .normal⟩] }
    s.classify 0x40200 = .normal := by decide
theorem test_turn_order : turnOrder 3 = [4, 5, 0, 1, 2, 3] := by decide
theorem test_eviction_passes_pinned_entries :
    evictPage [⟨1, 4, 0, .read, true⟩, ⟨1, 5, 0, .read, true⟩, ⟨3, 900, 0, .read, false⟩, ⟨3, 17, 0, .read, false⟩] =
      [⟨1, 4, 0, .read, true⟩, ⟨1, 5, 0, .read, true⟩, ⟨3, 17, 0, .read, false⟩] := by decide
theorem test_record_words :
    let r : FaultRecord := ⟨.translation .misalignedFrame, 2, 1, some 3, .read, 0x60005040, some 0x1F208, 2⟩
    r.word 0 = 0x80000123 ∧ r.word 1 = 0x60005040 ∧ r.word 2 = 0x8001F208 ∧ r.word 3 = 0x00028003 := by decide
theorem test_narrow_read : demo.hostRead 1 2 = 0x00001000 := by decide

/-! ## One step -/

/-- The next state of a command, or the state itself where the command stops. -/
def after (c : Instr) (s : State) : State :=
  match exec c s with
  | .next t => t
  | .fault _ => s
  | .refused _ => s

theorem test_read_miss_starts_a_walk :
    (after (.arrival 1 exampleRead) demo).contexts = #v[some { exampleWalk with read := .pending 0 }, none] ∧
    (after (.arrival 1 exampleRead) demo).park.map (·.placement) = [.waiting 0] ∧
    (after (.arrival 1 exampleRead) demo).trace = [.answer 1 0 .taken] := by decide
theorem test_grant_reads_the_aligned_beat :
    (after .grant (demoWalking (.pending 0))).trace = [.issued (.read 0x123456708 1)] := by decide
theorem test_linear_read_is_queued :
    ((after (.arrival 1 linearRead) demo).queue 1).reads =
      [⟨1, 0, 0x801FFFC0, 0x1201FFFC0, 8, 5, false⟩] := by decide
theorem test_read_only_write_is_taken_and_faulted :
    (after (.arrival 1 linearWrite) demo).trace = [.answer 1 1 .taken] ∧
    ((after (.arrival 1 linearWrite) demo).port 1).completions = [⟨1, .fault .accessDenied⟩] ∧
    ((after (.arrival 1 linearWrite) demo).aperture 5).count = 0 := by decide
theorem test_outside_the_mask :
    (after (.arrival 0 exampleRead) demo).trace = [.answer 0 0 (.refuse .notPermitted)] ∧
    (after (.arrival 0 exampleRead) demo).log =
      [⟨.notPermitted, 0, 0, some 2, .read, 0x40A35C48, none, 1⟩] := by decide
theorem test_map_read_serves_the_waiter :
    let s := { demoWalking .issued with
      contexts := #v[some { exampleWalk with phase := .blockRead 0x8812, read := .issued }, none]
      inFlight := [.walk 0 2 0x088128D0] }
    let t := after (.memoryCompletion (.okay #v[0x03C07B0700000000, 0, 0, 0, 0, 0, 0, 0])) s
    t.pageCache = [⟨2, 2613, 0x3C07B, .readWrite, false⟩] ∧ t.park = [] ∧ t.contexts = #v[none, none] ∧
    (t.queue 1).reads = [⟨0, 0, 0x40A35C48, 0x03C07BC48, 2, 2, false⟩] := by decide
theorem test_tick_expires_the_slot :
    let t := after .tick { demoWalking (.pending 0) with park := [{ exampleSlot with ticks := 3 }] }
    t.park = [] ∧ (t.port 1).completions = [⟨0, .timeout⟩] ∧ (t.aperture 2).count = 0 ∧
    t.log = [⟨.timeout, 1, 0, some 2, .read, 0x40A35C48, none, 1⟩] := by decide
theorem test_close_aborts_and_drains :
    let t := after (.closeAperture 2) (demoWalking (.pending 0))
    (t.aperture 2).state = .draining ∧ (t.aperture 2).count = 0 ∧ (t.port 1).completions = [⟨0, .aborted⟩] := by decide
theorem test_walk_of_a_draining_aperture_ends_the_drain :
    let s := { demoIn .draining with
      contexts := #v[some { exampleWalk with read := .issued }, none], inFlight := [.walk 0 2 0x123456708] }
    let t := after (.memoryCompletion (.okay #v[0x00881201, 0, 0, 0, 0, 0, 0, 0])) s
    (t.aperture 2).state = .closed ∧ t.contexts = #v[none, none] ∧ t.causes = 0x008 ∧ t.dirCache = [] := by decide
theorem test_push_of_a_malformed_range :
    (after (.push 0) { demo with staging := { Staging.reset with kind := 1, aperture := 2 } }).causes = 0x020 := by decide
theorem test_fence_with_no_items :
    let t := after (.push 0) { demo with staging := { Staging.reset with kind := 4, index := 0x0101, interrupt := true } }
    t.fenceToken = 0x0101 ∧ t.causes = 0x004 ∧ t.invQueue = [] := by decide
theorem test_port_reset_with_nothing_issued :
    let t := after (.portReset 1 false) (demoWalking (.pending 0))
    (t.port 1).state = .disabled ∧ t.park = [] ∧ (t.aperture 2).count = 0 ∧ t.causes = 0x200 := by decide
theorem test_flood_coalesces :
    (after (.arrival 1 ⟨3, 0x90000008, .read 1⟩) (after (.arrival 1 ⟨0, 0x90000000, .read 1⟩) demo)).log =
      [⟨.noAperture, 1, 0, none, .read, 0x90000000, none, 2⟩] := by decide

/-! ## The hypotheses of the statements, met

For each statement with hypotheses, values that meet all of them together, clause by clause. -/

/-- Whether a command answers a next state. -/
def runs (c : Instr) (s : State) : Bool :=
  match exec c s with
  | .next _ => true
  | .fault _ | .refused _ => false

theorem exec_eq_next_after {c : Instr} {s : State} (h : runs c s = true) : exec c s = .next (after c s) := by
  unfold runs at h; unfold after; split at h <;> simp_all

/-- `s` with one command waiting. -/
def queueing (c : Instr) (s : State) : State := { s with pending := [c] }

theorem step_queueing {c : Instr} {s : State} (h : runs c { s with pending := [] } = true) :
    step (queueing c s) = .next (after c { s with pending := [] }) := exec_eq_next_after h

/-- A directory cache with one entry keeps its law. -/
theorem dirCacheLaw_of_one {s : State} {e : DirEntry} (h : s.dirCache = [e]) : DirCacheLaw s :=
  ⟨by simp [h, Config.dirCacheEntries], h ▸ .cons nofun .nil⟩

theorem test_meets_StepRunsTheFrontCommand : demo.pending = [] := by decide
theorem test_meets_OnlyProtocolBreachesStop :
    exec (.memoryCompletion .error) demo = .fault .completionWithoutAccess ∧
    exec (.arrival 1 exampleRead) (after (.arrival 1 exampleRead) (after .pinReset demo)) = .fault .requestChannelBusy ∧
    exec (.arrival 0 ⟨0, 0, .read 9⟩) demo = .refused .requestLength ∧
    exec (.narrowWrite 3 0 7) demo = .refused .noByteLanes := ⟨rfl, rfl, rfl, rfl⟩
theorem test_meets_CausesStayUntilTheHostClearsThem :
    clearsCauses (.haltAperture 2) = false ∧
    exec (.haltAperture 2) { demo with causes := 0x201 } = .next (after (.haltAperture 2) { demo with causes := 0x201 }) ∧
    ({ demo with causes := 0x201 } : State).causes.getLsbD 9 = true := ⟨rfl, exec_eq_next_after rfl, rfl⟩
theorem test_meets_ConfigurationStaysWhileNotClosed :
    (∀ w v, Instr.descriptorWrite 2 .base 5 ≠ .hostWrite w v) ∧
    (∀ w l v, Instr.descriptorWrite 2 .base 5 ≠ .narrowWrite w l v) ∧
    exec (.descriptorWrite 2 .base 5) demo = .next (after (.descriptorWrite 2 .base 5) demo) ∧
    (demo.aperture 2).state ≠ .closed := ⟨nofun, nofun, exec_eq_next_after rfl, by decide⟩
theorem test_meets_PartEventsLeaveWhatTheHostOwns :
    isPartEvent .grant = true ∧
    exec .grant (demoWalking (.pending 0)) = .next (after .grant (demoWalking (.pending 0))) :=
  ⟨rfl, exec_eq_next_after rfl⟩

/-- A busy part: M1's read parked on a walk for (A2, 2613) whose read is pending; M3's parked write on a walk for (A2, 9) whose
read is issued; A2 and A5 Open; an entry in each cache; a counted read of M1 in flight behind an access marked for discard, with
a fence waiting for it; M4's port Resetting behind its Issued write; one fault record. -/
def busyPart : State :=
  { (demo.setAperture 2 { exampleWalked with count := 3 }).setAperture 5 { exampleLinear with count := 1 } with
    contexts := #v[some { exampleWalk with read := .pending 0 }, some ⟨.blockRead 5, 2, 9, .issued, false, true⟩]
    readySeq := 1
    park := [exampleSlot, ⟨1, 3, 0, .write, 2, 9, 0x40009000, 1, 0, .waiting 1, 3, 1⟩]
    queues := (State.reset.queues.set 3 ⟨[], [⟨0, 0, 0x40009000, [⟨1, 255⟩], 2, .untranslated, false, false⟩]⟩).set 4
      ⟨[], [⟨3, 7, 0x80000000, [⟨1, 255⟩], 5, .issued 0x120000000, true, false⟩]⟩
    ports := ((State.reset.ports.set 1 { Port.reset with tags := #v[some .read, some .read, none, none], taken := 2 }).set 3
      { Port.reset with tags := #v[some .write, none, none, none], taken := 1 }).set 4
      { Port.reset with state := .resetting, taken := 8 }
    inFlight := [.discarded, .walk 1 2 0x5020, .read { exampleRecord with tag := 1, counted := true },
      .write ⟨4, 3, 5, 0x80000000, 0x120000000, 1, false⟩]
    pageCache := [⟨2, 4, 0x77, .readWrite, true⟩], dirCache := [⟨2, 0, 5⟩]
    invQueue := [⟨.fence, 0, 0x0101, true, 0, 0⟩], fenceWaiting := true, fenceCounter := 1
    log := [⟨.noAperture, 1, 0, none, .read, 0x90000000, none, 255⟩] }

theorem test_meets_CachesKeepTheirLaws :
    step (queueing .tick busyPart) = .next (after .tick busyPart) ∧ PageCacheLaw (queueing .tick busyPart) ∧
    DirCacheLaw (queueing .tick busyPart) ∧ ClosedLaw (queueing .tick busyPart) := by
  refine ⟨step_queueing rfl, ⟨by decide, ?_, by decide⟩, ⟨by decide, ?_⟩, ⟨by decide, by decide⟩⟩ <;> exact .cons nofun .nil
theorem test_meets_ApertureRangesStayApart :
    step (queueing .tick busyPart) = .next (after .tick busyPart) ∧ ApertureLaw (queueing .tick busyPart) :=
  ⟨step_queueing rfl, by decide, by decide⟩
theorem test_meets_WalksStayDistinctAndContextsTaken :
    step (queueing .tick busyPart) = .next (after .tick busyPart) ∧ WalkLaw (queueing .tick busyPart) :=
  ⟨step_queueing rfl,
   fun v w hv hw => (by decide : ∀ v ∈ busyPart.context 0, ∀ w ∈ busyPart.context 1,
     ¬ (v.aperture = w.aperture ∧ v.page = w.page)) v hv w hw,
   by nofun, by decide⟩
theorem test_meets_WalkerReadsStayAccountedFor :
    step (queueing .tick busyPart) = .next (after .tick busyPart) ∧ WalkReadLaw (queueing .tick busyPart) ∧
    ReadyLaw (queueing .tick busyPart) :=
  ⟨step_queueing rfl,
   ⟨fun c w h => (by decide : ∀ c, ∀ w ∈ busyPart.context c, w.read ≠ .none) c w h, by decide⟩,
   ⟨fun c t h => (by decide : ∀ c, ∀ t ∈ busyPart.readyTime c, t < busyPart.readySeq) c t h, nofun⟩⟩
theorem test_busyPart_requestLaw : RequestLaw busyPart where
  slots := by unfold ParkLaw; decide
  swept := by unfold SweptLaw; decide
  distinct := by decide
  inUse := by decide
  parkedKinds := by decide
  readKinds := by decide
  writeKinds := by decide
  flightKinds r h := by
    have : r = { exampleRecord with tag := 1, counted := true } := by simpa [busyPart] using h
    subst this; decide
  completionKinds m := by
    have : (busyPart.port m).completions = [] := (by decide : ∀ m, (busyPart.port m).completions = []) m
    simp [this]
  settled := by decide
  holes := by decide
  front := by decide
  issued := by decide
  room := by decide
theorem test_meets_SlotsAccessesAndRecordsStayBounded :
    step (queueing .tick busyPart) = .next (after .tick busyPart) ∧ ParkLaw (queueing .tick busyPart) ∧
    InFlightLaw (queueing .tick busyPart) ∧ LogLaw (queueing .tick busyPart) ∧ RequestLaw (queueing .tick busyPart) := by
  have h := test_busyPart_requestLaw
  refine ⟨step_queueing rfl, h.slots, ⟨by decide, ?_⟩, ⟨by decide, by decide⟩,
    ⟨h.slots, h.swept, h.distinct, h.inUse, h.parkedKinds, h.readKinds, h.writeKinds, h.flightKinds,
      h.completionKinds, h.settled, h.holes, h.front, h.issued, h.room⟩⟩
  decide
theorem test_meets_ResettingPortsHoldOnlyIssuedWork :
    step (queueing .tick busyPart) = .next (after .tick busyPart) ∧ SweptLaw (queueing .tick busyPart) := by
  refine ⟨step_queueing rfl, ?_⟩; unfold SweptLaw; decide
theorem test_meets_FenceCounterCountsTheMarkedItems :
    step (queueing .tick busyPart) = .next (after .tick busyPart) ∧ FenceLaw (queueing .tick busyPart) :=
  ⟨step_queueing rfl, by decide, by decide, fun _ => ⟨by decide, _, _, rfl, rfl⟩, nofun, by decide⟩
theorem test_meets_PortStatesFollowEnableOrReset :
    step (queueing .tick busyPart) = .next (after .tick busyPart) ∧ PortLaw (queueing .tick busyPart) := by
  refine ⟨step_queueing rfl, ?_⟩; unfold PortLaw; decide
theorem test_meets_DrainsEndInTheEventThatAllowsThem :
    let s := queueing .tick (busyPart.setAperture 2 { exampleWalked with count := 3, state := .draining })
    step s = .next (after .tick { s with pending := [] }) ∧ DrainLaw s ∧ (s.aperture 2).state = .draining := by
  refine ⟨step_queueing rfl, ?_, by decide⟩; unfold DrainLaw; decide
theorem test_meets_DrainsEndInTheEventThatAllowsThem_counts : RequestLaw busyPart ∧ CountLaw busyPart :=
  ⟨test_busyPart_requestLaw, by unfold CountLaw; decide⟩
/-- Draining under one read in flight: its last request retires, or a command to it is refused. -/
theorem test_meets_DrainsEndInTheEventThatAllowsThem_moves :
    let s := (demoReading false).setAperture 2 { exampleWalked with count := 1, state := .draining }
    (s.aperture 2).state = .draining ∧
    (resetsPart (.memoryCompletion .error) = false ∧ runs (.memoryCompletion .error) s = true ∧
      ((after (.memoryCompletion .error) s).aperture 2).state = .closed) ∧
    (resetsPart (.hostWrite 83 1) = false ∧ runs (.hostWrite 83 1) s = true ∧
      ((after (.hostWrite 83 1) s).aperture 2).lastResult = .badState) ∧
    (resetsPart (.hostWrite 2 2) = true ∧ resetsPart (.hostWrite 2 1) = false) := by decide
theorem test_meets_ResetValuesHoldWhileResetIsLow :
    let s := queueing .tick (after .pinReset busyPart)
    step s = .next (after .tick { s with pending := [] }) ∧ HeldLaw s ∧ RegionLaw s ∧ s.resetLow = true := by
  refine ⟨step_queueing rfl, ?_, ?_, by decide⟩
  · unfold HeldLaw; decide
  · unfold RegionLaw; decide

theorem test_meets_HaltAndResumeMoveTheAperture :
    demo.resetLow = false ∧ (demo.aperture 2).state = .opened ∧
    (demoIn .halted).resetLow = false ∧ ((demoIn .halted).aperture 2).state = .halted := by decide
theorem test_meets_ForbiddenCommandsAreRefusedWithBadState :
    demo.resetLow = false ∧ (demo.aperture 2).state ≠ .closed ∧
    ((demo.aperture 0).state ≠ .opened ∧ (demo.aperture 0).state ≠ .halted) ∧
    (((demoIn .draining).aperture 2).state ≠ .opened ∧ ((demoIn .draining).aperture 2).state ≠ .halted) ∧
    ((demoIn .halted).aperture 2).state ≠ .opened ∧ (demo.aperture 2).state ≠ .halted := by decide
/-- One Closed aperture for each check of an Open, the base of the Overlap one inside A5, and one that passes them all. -/
theorem test_meets_OpenValidatesTheDescriptorInOrder :
    let a := { exampleWalked with state := .closed }
    let result (a : Aperture) := ((after (.openAperture 2) (demo.setAperture 2 a)).aperture 2).lastResult
    (demo.setAperture 2 a).resetLow = false ∧ ((demo.setAperture 2 a).aperture 2).state = .closed ∧
    result { a with sizeCode := 9 } = .badSize ∧ result { a with base := 0x40100000 } = .baseMisaligned ∧
    result { a with tableAddress := 0x12345678 } = .tableMisaligned ∧
    result { a with mode := .linear, pageSize := .k64, tableAddress := 0xFF000008 } = .frameMisaligned ∧
    result { a with masterMask := 0 } = .noMasters ∧ result { a with base := 0x80000000 } = .overlap ∧
    result { a with base := 0xFFF00000, sizeCode := 0 } = .opened := by decide
theorem test_meets_ClosingRemovesTheCacheEntries :
    demo.resetLow = false ∧ (demo.aperture 2).count = 0 ∧ (∀ d, ∀ w ∈ demo.context d, w.aperture ≠ 2) ∧
    (demo.aperture 2).state = .opened ∧ ((demoIn .halted).aperture 2).state = .halted ∧
    ((demoIn .draining).aperture 2).state = .draining ∧ ((demoIn .draining).aperture 2).count = 0 := by decide
theorem test_meets_ClosingRemovesTheCacheEntries_notDue :
    (demo.aperture 2).state ≠ .draining ∧
    (let s := busyPart.setAperture 2 { exampleWalked with count := 1, state := .draining }
     (s.aperture 2).count ≠ 0) ∧
    (let s := { demoIn .draining with contexts := #v[some { exampleWalk with read := .issued }, none] }
     (s.aperture 2).count = 0 ∧ ∃ w ∈ s.context 0, w.aperture = 2) := by decide
theorem test_meets_CloseUnderTrafficAbortsTheParked :
    (busyPart.resetLow = false ∧ (busyPart.aperture 2).state = .opened ∧ busyPart.drained 2 = false ∧
      ParkLaw busyPart ∧ (busyPart.port 4).state = .resetting) ∧
    let s := { demoWalking .none with contexts := State.reset.contexts }
    s.drained 2 = false ∧ ParkLaw s ∧ ((after (.closeAperture 2) s).aperture 2).state = .closed := by
  unfold ParkLaw; decide
theorem test_meets_DescriptorWritesStoreOnlyWhileClosed :
    demo.resetLow = false ∧ (demo.aperture 0).state = .closed ∧ (demo.aperture 2).state ≠ .closed := by decide

/-- The region table of the worked example of chapter 3. -/
def demoRegions : State :=
  { demo with regions := #v[⟨0x100, .absent⟩, ⟨0x40000, .normal⟩, ⟨0x40400, .readOnly⟩, ⟨0x80000, .normal⟩] }

theorem test_meets_AccessAndRegionChecks :
    permits .read .write = false ∧ permits .readWrite .write = true ∧ permits .read .read = true ∧
    demoRegions.classify 0x80000 = .uncovered ∧ demoRegions.classify 0xFF = .absent ∧
    demoRegions.classify 0x403FF = .readOnly ∧ demoRegions.classify 0x40400 = .normal := by decide
theorem test_meets_RegionTableClassifiesByTheLowestEnd :
    (0x3FFFF < (demoRegions.regions[(1 : RegionId)]).endFrame.toNat ∧
      ∀ j : RegionId, j < 1 → (demoRegions.regions[j]).endFrame.toNat ≤ 0x3FFFF) ∧
    (∀ i : RegionId, (demoRegions.regions[i]).endFrame.toNat ≤ 0x80000) ∧
    (RegionLaw demoRegions ∧ 16777216 ≤ Config.frames) := by unfold RegionLaw; decide

theorem test_meets_EveryArrivalGetsOneAnswer :
    demo.resetLow = false ∧ exec (.arrival 1 exampleRead) demo = .next (after (.arrival 1 exampleRead) demo) :=
  ⟨rfl, exec_eq_next_after rfl⟩
theorem test_meets_MalformedArrivalsAreRefusedInOrder :
    (demo.resetLow = false ∧ 1 ≤ exampleRead.length ∧ exampleRead.length ≤ 8) ∧
    (busyPart.port 4).state = .resetting ∧ ((busyPart.port 1).state ≠ .resetting ∧ busyPart.globalEnable = true) ∧
    ((demo.port 1).state ≠ .resetting ∧ State.reset.globalEnable = false) ∧
    ((after (.portEnableWrite 1 false) demo).port 1).state = .disabled ∧
    ((demo.port 1).state = .active ∧ demo.globalEnable = true ∧ (demo.port 1).tag 0 = none) ∧
    (((after (.arrival 1 linearRead) demo).port 1).tag 1).isSome = true ∧
    (0x40A35C4C : Word).toNat % 8 ≠ 0 ∧
    ((0x40A35C48 : Word).toNat % 8 = 0 ∧ 64 < (0x40A35C48 : Word).toNat % 64 + 8 * 8) := by decide
theorem test_meets_ApertureAndResourceChecksFollowInOrder :
    (demo.accepts 1 ⟨0, 0x41000000, .read 8⟩ ∧ demo.decode 0x41000000 = none) ∧
    (demo.accepts 0 exampleRead ∧ demo.decode exampleRead.address = some 2 ∧
      (demo.aperture 2).masterMask.getLsbD 0 = false) ∧
    (demo.accepts 1 exampleRead ∧ (demo.aperture 2).masterMask.getLsbD 1 = true ∧ (demo.aperture 2).state = .opened) ∧
    ((demoIn .draining).accepts 1 exampleRead ∧ (demoIn .draining).decode exampleRead.address = some 2) ∧
    ((demoIn .halted).accepts 1 exampleRead ∧ (demoIn .halted).decode exampleRead.address = some 2) := by
  unfold State.accepts; decide

/-- `demo` with M1's write-order queue full. -/
def demoFull : State := { demo with queues := demo.queues.set 1 ⟨[], List.replicate 4 exampleHole⟩ }

/-- `demo` with all sixteen slots busy on pages of M3 and both contexts walking. -/
def demoParked : State :=
  { demo with
    park := (List.finRange 16).map fun k => ⟨k, 3, 0, .read, 2, k.val, 0x40000000, 1, k.val, .waiting 0, 0, 0⟩
    contexts := #v[some { exampleWalk with page := 1 }, some { exampleWalk with page := 2 }] }

theorem test_meets_ApertureAndResourceChecksFollowInOrder_decode :
    ApertureLaw demo ∧ demo.decode 0x40FFFFFF = some 2 ∧ demo.decode 0x80000000 = some 5 ∧
    demo.decode 0x41000000 = none := ⟨⟨by decide, by decide⟩, by decide, by decide, by decide⟩
theorem test_meets_ApertureAndResourceChecksFollowInOrder_retries :
    (demoFull.accepts 1 ⟨1, 0x40A35C40, .write [⟨7, 255⟩]⟩ ∧ 4 ≤ (demoFull.queue 1).writes.length ∧
      demoFull.decode 0x40A35C40 = some 2) ∧
    (demoParked.accepts 1 exampleRead ∧ demoParked.decode exampleRead.address = some 2 ∧
      (demoParked.aperture 2).mode = .walked ∧
      (∀ e ∈ demoParked.pageCache, ¬ (e.aperture = 2 ∧ e.page = exampleWalked.pageIndex exampleRead.address)) ∧
      ∀ k : SlotId, ∃ x ∈ demoParked.park, x.num = k) := by
  unfold State.accepts; decide

theorem test_meets_LinearRequestsAreTakenAndQueued :
    (demo.admits 1 linearRead 5 ∧ (demo.aperture 5).mode = .linear ∧ linearRead.kind = .read ∧
      demo.classify ((0x120000 * 4096 + 0x1FFFC0) / 4096) = .normal) ∧
    (demoPosting.admits 1 linearWrite 5 ∧ (demoPosting.aperture 5).linearAccess = .readWrite ∧
      demoPosting.classify ((0x120000 * 4096 + 0x1FFFC0) / 4096) = .normal) := by
  unfold State.admits State.accepts; decide
theorem test_meets_LinearRequestsThatFailReceiveTheirFault :
    (demo.admits 1 linearWrite 5 ∧ linearWrite.kind = .write ∧ (demo.aperture 5).linearAccess = .readOnly) ∧
    (let s := { demo with regions := demoRegions.regions }
     s.admits 1 linearRead 5 ∧ s.classify ((0x120000 * 4096 + 0x1FFFC0) / 4096) = .uncovered) ∧
    (let s := { demoPosting with regions := #v[⟨0x1000000, .readOnly⟩, ⟨0, .normal⟩, ⟨0, .normal⟩, ⟨0, .normal⟩] }
     s.admits 1 linearWrite 5 ∧ s.classify ((0x120000 * 4096 + 0x1FFFC0) / 4096) = .readOnly) := by
  unfold State.admits State.accepts; decide

/-- `demo` with the page of `exampleRead` cached behind another one. -/
def demoCached : State :=
  { demo with pageCache := [⟨2, 2613, 0x3C07B, .readWrite, false⟩, ⟨2, 4, 0x77, .read, true⟩] }

theorem test_meets_CacheHitsAreServedAtTheArrival :
    PageCacheLaw demoCached ∧ demoCached.admits 1 exampleRead 2 ∧ (demoCached.aperture 2).mode = .walked ∧
    (⟨2, 2613, 0x3C07B, .readWrite, false⟩ : PageEntry) ∈ demoCached.pageCache ∧
    (0x40A35C48 - 0x40000000) / 4096 = 2613 ∧ exampleRead.body = .read 2 ∧
    demoCached.classify ((0x3C07B * 4096 + (0x40A35C48 - 0x40000000) % 4096) / 4096) = .normal := by
  refine ⟨⟨by decide, ?_, by decide⟩, ?_⟩
  · refine .cons ?_ (.cons nofun .nil); unfold PageEntry.sameKey; decide
  · unfold State.admits State.accepts; decide
/-- A write that hits, one that the entry's access denies, and a read in an uncovered frame. -/
theorem test_meets_CacheHitsAreServedAtTheArrival_others :
    (demoCached.admits 1 ⟨2, 0x40A35C48, .write [⟨7, 255⟩]⟩ 2 ∧ demoCached.classify 0x3C07B = .normal) ∧
    (demoCached.admits 1 ⟨2, 0x40004000, .write [⟨7, 255⟩]⟩ 2 ∧ (0x40004000 - 0x40000000) / 4096 = 4 ∧
      (⟨2, 4, 0x77, .read, true⟩ : PageEntry) ∈ demoCached.pageCache ∧ MapAccess.read ≠ .readWrite) ∧
    (let s := { demoCached with regions := #v[⟨0x100, .readOnly⟩, ⟨0, .normal⟩, ⟨0, .normal⟩, ⟨0, .normal⟩] }
     s.admits 1 exampleRead 2 ∧ s.classify 0x3C07B = .uncovered ∧ s.classify 0x77 = .readOnly) := by
  unfold State.admits State.accepts; decide
theorem test_meets_MissesParkInTheLowestFreeSlot :
    (let s := demoWalking (.pending 0)
     s.admits 3 exampleRead 2 ∧ (∀ e ∈ s.pageCache, ¬ (e.aperture = 2 ∧ e.page = 2613)) ∧
     (∀ x ∈ s.park, x.num ≠ 1) ∧ (∀ j : SlotId, j < 1 → ∃ x ∈ s.park, x.num = j) ∧
     s.context 0 = some { exampleWalk with read := .pending 0 } ∧
     ∀ d, ∀ v ∈ s.context d, v.aperture = 2 → v.page = 2613 → d = 0) ∧
    (let s := { demoParked with park := demoParked.park.take 15 }
     s.admits 1 exampleRead 2 ∧ (∀ x ∈ s.park, x.num ≠ 15) ∧ (∀ j : SlotId, j < 15 → ∃ x ∈ s.park, x.num = j) ∧
     ∀ c, (s.context c).any fun w => ¬ (w.aperture = 2 ∧ w.page = 2613)) := by
  unfold State.admits State.accepts; decide
theorem test_meets_MissesStartAWalkInAnIdleContext :
    (demo.admits 1 exampleRead 2 ∧ demo.context 0 = none ∧ (∀ x ∈ demo.park, x.num ≠ 0) ∧
      (∀ d, ∀ w ∈ demo.context d, ¬ (w.aperture = 2 ∧ w.page = 2613)) ∧
      (∀ e ∈ demo.dirCache, ¬ (e.aperture = 2 ∧ e.index = 2613 / 1024)) ∧
      demo.classify ((demo.aperture 2).tableAddress.toNat / 256) = .normal) ∧
    (let s := { demoParked with park := demoParked.park.take 1, contexts := #v[some { exampleWalk with page := 1 }, none] }
     s.admits 1 exampleRead 2 ∧ s.context 1 = none ∧ s.context 0 ≠ none ∧
     ∀ d, ∀ w ∈ s.context d, ¬ (w.aperture = 2 ∧ w.page = 2613)) := by
  unfold State.admits State.accepts; decide
/-- A write that misses; a directory cache hit with its block frame in range and out of it; the directory frame out of range. -/
theorem test_meets_MissesStartAWalkInAnIdleContext_tables :
    demo.admits 1 ⟨2, 0x40A35C48, .write [⟨7, 255⟩]⟩ 2 ∧
    (let s (f : Frame) : State := { demoRegions with dirCache := [⟨2, 2, f⟩] }
     (∀ f, DirCacheLaw (s f) ∧ (⟨2, 2, f⟩ : DirEntry) ∈ (s f).dirCache) ∧ (s 0x8812).admits 1 exampleRead 2 ∧
     (2 : Nat) = 2613 / 1024 ∧ (s 0x8812).classify 0x8812 = .normal ∧ (s 0x403FF).classify 0x403FF = .readOnly ∧
     (s 0xFF).classify 0xFF = .absent) ∧
    (demoRegions.admits 1 exampleRead 2 ∧ demoRegions.dirCache = [] ∧
      demoRegions.classify (0x12345670 / 256) = .uncovered) := by
  refine ⟨by unfold State.admits State.accepts; decide, ⟨fun f => ⟨dirCacheLaw_of_one rfl, .head _⟩, ?_⟩, ?_⟩ <;>
    (unfold State.admits State.accepts; decide)
theorem test_meets_AcceptanceDeliversTheOldestCompletion :
    (demo.port 1).completions = [] ∧
    ((after (.arrival 1 linearWrite) demo).port 1).completions = [⟨1, .fault .accessDenied⟩] := by decide
theorem test_meets_PortStatesFollowTheEnable :
    let s := { busyPart with inFlight := [] }
    busyPart.resetLow = false ∧ (busyPart.port 1).state ≠ .resetting ∧ (s.port 4).state = .resetting ∧
    s.hasAccess 4 = false := by decide
theorem test_meets_PortResetSweepsTheMastersWork :
    let s := { busyPart with fenceWaiting := false }
    (s.port 4).state = .resetting ∧ ((s.port 1).state ≠ .resetting ∧ s.hasAccess 1 = true) ∧
    ((s.port 3).state ≠ .resetting ∧ s.hasAccess 3 = false) ∧ s.fenceWaiting = false := by decide
/-- A fence that waits for a counted read in flight goes on waiting. -/
theorem test_meets_PortResetSweepsTheMastersWork_fence :
    (busyPart.port 1).state ≠ .resetting ∧ busyPart.fenceWaiting = true ∧
    (busyPart.queue 1).reads.countP (fun e => e.counted) +
      (busyPart.queue 1).writes.countP (fun e => e.isTranslated ∧ e.counted) < busyPart.fenceCounter := by decide
/-- The last request of a Draining aperture is a parked one of the master. -/
theorem test_meets_PortResetSweepsTheMastersWork_draining :
    let s := (demoWalking .none).setAperture 2 { exampleWalked with count := 1, state := .draining }
    let u := { s with contexts := #v[none, none] }
    (s.port 1).state ≠ .resetting ∧ s.fenceWaiting = false ∧ s.drainEnds 2 1 = false ∧ u.drainEnds 2 1 = true := by decide

theorem test_meets_GrantsServeTheEarlierWalkReadFirst :
    (let s := { demo with inFlight := List.replicate 8 .discarded }
     s.resetLow = false ∧ 8 ≤ s.inFlight.length) ∧
    (let s := { busyPart with
       contexts := #v[some { exampleWalk with read := .pending 7 }, some ⟨.blockRead 5, 2, 9, .pending 6, false, true⟩]
       inFlight := List.replicate 7 .discarded }
     s.inFlight.length < 8 ∧ s.context 1 = some ⟨.blockRead 5, 2, 9, .pending 6, false, true⟩ ∧
     ∀ d, ∀ v ∈ s.context d, d ≠ 1 → v.read = .pending 7) := by decide

/-- M3 with a Translated write behind an Issued one, and M1 with a read of the worked example, after a grant to M1. -/
def demoIssuing : State :=
  { demo with
    rrPointer := 1
    inFlight := [.write ⟨3, 1, 5, 0x80000000, 0x120000000, 1, false⟩]
    queues := (demo.queues.set 1 ⟨[⟨0, 0, 0x40A35C48, 0x03C07BC48, 2, 2, false⟩], []⟩).set 3
      ⟨[], [⟨1, 0, 0x80000000, [⟨7, 255⟩], 5, .issued 0x120000000, true, false⟩,
        ⟨2, 1, 0x80000040, [⟨8, 255⟩], 5, .translated 0x120000040, false, false⟩]⟩ }

theorem test_meets_GrantsGoRoundTheMasters :
    (demoIssuing.resetLow = false ∧ demoIssuing.inFlight.length < 8 ∧
      (∀ c, ∀ w ∈ demoIssuing.context c, w.read = .none) ∧ (3 : Nat) = (demoIssuing.rrPointer.val + 2) % 6 ∧
      demoIssuing.candidate 2 = none ∧ demoIssuing.candidate 3 =
        some (.write 3 ⟨2, 1, 0x80000040, [⟨8, 255⟩], 5, .translated 0x120000040, false, false⟩)) ∧
    (let s := { demoIssuing with queues := demoIssuing.queues.set 3 ⟨[], []⟩ }
     (1 : Nat) = (s.rrPointer.val + 6) % 6 ∧
     (∀ (o : Master) (j : Fin 6), 1 ≤ j.val → o.val = (s.rrPointer.val + j.val) % 6 → s.candidate o = none) ∧
     s.candidate 1 = some (.read 1 ⟨0, 0, 0x40A35C48, 0x03C07BC48, 2, 2, false⟩)) := by decide
theorem test_meets_GrantsGoRoundTheMasters_none :
    demo.resetLow = false ∧ (∀ c, demo.context c = none) ∧ ∀ o, demo.candidate o = none := by decide
theorem test_meets_CandidatesRespectTheWriteOrderAndTheOverlapHold :
    demoIssuing.candidate 3 =
      some (.write 3 ⟨2, 1, 0x80000040, [⟨8, 255⟩], 5, .translated 0x120000040, false, false⟩) ∧
    demoIssuing.candidate 1 = some (.read 1 ⟨0, 0, 0x40A35C48, 0x03C07BC48, 2, 2, false⟩) ∧
    demoIssuing.candidate 2 = none := by decide

theorem test_meets_ReadCompletionsDeliverOrAreDiscarded :
    (busyPart.resetLow = false ∧ busyPart.inFlight.head? = some .discarded) ∧
    ((demoReading false).resetLow = false ∧ (demoReading false).inFlight = [.read exampleRecord] ∧
      ((demoReading false).port 1).state ≠ .resetting ∧ ((demoReading false).aperture 2).state ≠ .draining ∧
      exampleRecord.counted = false) ∧
    (let s := after (.portReset 1 true) (demoReading false)
     s.inFlight = [.read exampleRecord] ∧ (s.port 1).state = .resetting) ∧
    (let s := after (.portReset 1 true) { demoReading false with inFlight := [.read exampleRecord, .read exampleRecord] }
     s.inFlight = .read exampleRecord :: [.read exampleRecord] ∧ (s.port 1).state = .resetting) := by decide
/-- The last request of a Draining aperture; a counted read with a fence waiting for two items. -/
theorem test_meets_ReadCompletionsDeliverOrAreDiscarded_others :
    (((demoReading false).setAperture 2 { exampleWalked with count := 1, state := .draining }).drainEnds 2 1 = true) ∧
    (let s := { demoReading true with fenceWaiting := true, fenceCounter := 2 }
     s.inFlight = [.read { exampleRecord with counted := true }] ∧ 2 ≤ s.fenceCounter) := by decide
theorem test_meets_WriteCompletionsFollowThePosting :
    demoIssuing.resetLow = false ∧
    demoIssuing.inFlight = [.write ⟨3, 1, 5, 0x80000000, 0x120000000, 1, false⟩] ∧
    (demoIssuing.port 3).state ≠ .resetting ∧ (demoIssuing.aperture 5).state ≠ .draining ∧
    ((demoIssuing.queue 3).writes.head?.any (·.isIssued)) = true ∧
    ((after (.portReset 3 false) demoIssuing).port 3).state = .resetting ∧
    (after (.portReset 3 false) demoIssuing).inFlight = [.write ⟨3, 1, 5, 0x80000000, 0x120000000, 1, false⟩] := by decide
theorem test_meets_WriteCompletionsFollowThePosting_others :
    let s := { demoIssuing.setAperture 5 { exampleLinear with count := 1, state := .draining } with
      inFlight := [.write ⟨3, 1, 5, 0x80000000, 0x120000000, 1, true⟩], fenceWaiting := true, fenceCounter := 2 }
    s.drainEnds 5 1 = true ∧ s.inFlight = [.write ⟨3, 1, 5, 0x80000000, 0x120000000, 1, true⟩] ∧ 2 ≤ s.fenceCounter := by
  decide
theorem test_meets_LastCountedRetirementCompletesTheFence :
    let s := { demoReading true with
      fenceWaiting := true, fenceCounter := 1, invQueue := [⟨.fence, 0, 0x0101, true, 0, 0⟩] }
    s.resetLow = false ∧ s.inFlight = [.read { exampleRecord with counted := true }] ∧
    (s.port 1).state ≠ .resetting ∧ (s.aperture 2).state ≠ .draining ∧ s.fenceWaiting = true ∧ s.fenceCounter = 1 ∧
    s.invQueue = [⟨.fence, 0, 0x0101, true, 0, 0⟩] := by decide
/-- The last counted item is an Issued write; or M1's read on the issue list, removed by its Port Reset. -/
theorem test_meets_LastCountedRetirementCompletesTheFence_others :
    let s := { demoIssuing with
      fenceWaiting := true, fenceCounter := 1, invQueue := [⟨.fence, 0, 0x0101, true, 0, 0⟩] }
    ({ s with inFlight := [.write ⟨3, 1, 5, 0x80000000, 0x120000000, 1, true⟩] } : State).inFlight =
      [.write ⟨3, 1, 5, 0x80000000, 0x120000000, 1, true⟩] ∧
    (let u := { s with queues := s.queues.set 1 ⟨[⟨0, 0, 0x40A35C48, 0x03C07BC48, 2, 2, true⟩], []⟩ }
     u.resetLow = false ∧ (u.port 1).state ≠ .resetting ∧ u.fenceWaiting = true ∧
     u.invQueue = [⟨.fence, 0, 0x0101, true, 0, 0⟩] ∧ u.fenceCounter ≠ 0 ∧
     u.fenceCounter = (u.queue 1).reads.countP (fun e => e.counted) +
       (u.queue 1).writes.countP (fun e => e.isTranslated ∧ e.counted)) := by decide
/-- The queue of the worked example 8.7, with two of its pages, behind the fence that one counted read holds. -/
def demoBehindFence : State :=
  { demoReading true with
    fenceWaiting := true, fenceCounter := 1
    invQueue := [⟨.fence, 0, 7, true, 0, 0⟩, ⟨.page, 2, 0, false, 10, 0⟩, ⟨.page, 2, 0, false, 11, 0⟩, ⟨.fence, 0, 8, false, 0, 0⟩]
    pageCache := [⟨2, 10, 0x77, .read, false⟩, ⟨2, 12, 0x78, .read, false⟩, ⟨2, 11, 0x79, .read, true⟩] }

theorem test_meets_LastCountedRetirementCompletesTheFence_behind :
    demoBehindFence.invQueue ≠ [] ∧ demoBehindFence.fenceCounter = 1 ∧
    (let t := after (.memoryCompletion .error) demoBehindFence
     t.fenceToken = 8 ∧ t.invQueue = [] ∧ t.fenceWaiting = false ∧ t.causes.getLsbD 2 = true ∧
     t.pageCache = [⟨2, 12, 0x78, .read, false⟩]) := by decide

/-- `demoWalking` with a stale walk. -/
def demoStale : State :=
  { demoWalking .none with contexts := #v[some { exampleWalk with stale := true }, none] }

theorem test_meets_WaiterlessWalksEndAndStaleWalksRestart :
    (let s := { demoWalking .none with park := [] }
     s.resetLow = false ∧ s.context 0 = some exampleWalk ∧ exampleWalk.read = .none ∧
     (s.aperture 2).state ≠ .draining ∧ (∀ k ∈ s.park, k.placement ≠ .waiting 0) ∧
     ∀ k ∈ s.park, k.placement ≠ .queued) ∧
    (demoStale.context 0 = some { exampleWalk with stale := true } ∧
     (∃ k ∈ demoStale.park, k.placement = .waiting 0) ∧
     (∀ e ∈ demoStale.dirCache, ¬ (e.aperture = 2 ∧ e.index = 2613 / 1024)) ∧
     demoStale.classify ((demoStale.aperture 2).tableAddress.toNat / 256) = .normal) := by decide
/-- A walk of a Draining aperture; a stale walk whose restart hits the directory cache, with its block frame in range and out
of it, and one whose directory frame is out of range. -/
theorem test_meets_WaiterlessWalksEndAndStaleWalksRestart_others :
    ((demoIn .draining).aperture 2).state = .draining ∧
    (let s (f : Frame) : State := { demoStale with dirCache := [⟨2, 2, f⟩], regions := demoRegions.regions }
     (∀ f, DirCacheLaw (s f) ∧ (⟨2, 2, f⟩ : DirEntry) ∈ (s f).dirCache) ∧ (s 0).resetLow = false ∧
     (s 0).context 0 = some { exampleWalk with stale := true } ∧ ((s 0).aperture 2).state = .opened ∧
     (∃ k ∈ (s 0).park, k.placement = .waiting 0) ∧ (s 0x8812).classify 0x8812 = .normal ∧
     (s 0xFF).classify 0xFF = .absent ∧ (s 0).classify (0x12345670 / 256) = .uncovered) :=
  ⟨by decide, fun _ => ⟨dirCacheLaw_of_one rfl, .head _⟩, by decide⟩
theorem test_meets_JudgedWalksSettleEveryWaiter :
    let s := { demoWalking .none with park := [exampleSlot, exampleWriteSlot] }
    s.resetLow = false ∧ s.context 0 = some exampleWalk ∧ exampleWalk.read = .none ∧ exampleWalk.stale = false ∧
    (∃ k ∈ s.park, k.placement = .waiting 0) ∧ (∀ k ∈ s.park, k.placement ≠ .queued) ∧ ParkLaw s ∧
    WalkResult.fault .notValid ≠ .discarded ∧ WalkResult.success 0x3C07B .readWrite true ≠ .discarded ∧
    (s.aperture 2).state = .opened ∧ ∀ k ∈ s.park, k.placement = .waiting 0 → k.aperture = 2 := by
  unfold ParkLaw; decide
/-- The same with a slot Queued on another page, which then takes the context. -/
theorem test_meets_JudgedWalksSettleEveryWaiter_queued :
    let s := { demoWalking .none with park := [exampleSlot, { exampleWriteSlot with page := 9, placement := .queued }] }
    ParkLaw s ∧ s.park.filter (fun k => k.placement = .waiting 0) = [exampleSlot] ∧
    (∃ k ∈ s.park, k.placement = .queued) ∧
    ((after (.walkCompletion 0 (.fault .notValid)) s).context 0).any (·.page = 9) = true := by
  unfold ParkLaw; decide
/-- A walk that asks for a pin that eight entries hold already. -/
theorem test_meets_JudgedWalksSettleEveryWaiter_pins :
    let s := { demoWalking .none with pageCache := (List.range 8).map fun i => ⟨2, i, 5, .read, true⟩ }
    let t := after (.walkCompletion 0 (.success 0x3C07B .readWrite true)) s
    8 ≤ pinnedCount s.pageCache ∧ t.pageCache.length = 9 ∧ t.causes = 0x100 := by decide
theorem test_meets_TakeoverStartsTheOldestQueuedSlotsWalk :
    let s := { demo with
      park := [{ exampleWriteSlot with placement := .waiting 1 }, { exampleSlot with placement := .queued }]
      dirCache := [⟨2, 2, 0x8812⟩] }
    s.resetLow = false ∧ s.context 0 = none ∧
    s.park = [{ exampleWriteSlot with placement := .waiting 1 }] ++ { exampleSlot with placement := .queued } :: [] ∧
    DirCacheLaw s ∧ (⟨2, 2, 0x8812⟩ : DirEntry) ∈ s.dirCache ∧ (2 : Nat) = exampleSlot.page / 1024 ∧
    (s.aperture 2).state ≠ .draining ∧ s.classify 0x8812 = .normal := by
  refine ⟨rfl, rfl, rfl, dirCacheLaw_of_one rfl, ?_⟩; decide
/-- The same without a directory cache entry, and with the table's frames out of range. -/
theorem test_meets_TakeoverStartsTheOldestQueuedSlotsWalk_others :
    let s := { demoRegions with park := [{ exampleSlot with placement := .queued }] }
    s.resetLow = false ∧ s.context 0 = none ∧ s.park = [] ++ { exampleSlot with placement := .queued } :: [] ∧
    s.dirCache = [] ∧ (s.aperture 2).state ≠ .draining ∧ s.classify (0x12345670 / 256) = .uncovered ∧
    s.classify 0xFF = .absent ∧ demo.classify (0x12345670 / 256) = .normal := by decide
/-- Two slots Queued on two keys, with the directory frame out of range: both start and fail in one event, the older first. -/
theorem test_meets_TakeoverStartsTheOldestQueuedSlotsWalk_chain :
    let s := { demoRegions with
      park := [{ exampleSlot with placement := .queued }, { exampleSlot with num := 1, tag := 3, page := 9, placement := .queued }] }
    let t := after (.takeover 0) s
    s.context 0 = none ∧ (s.aperture 2).state ≠ .draining ∧ t.park = [] ∧ t.context 0 = none ∧
    (t.port 1).completions = [⟨0, .fault .tableOutOfRange⟩, ⟨3, .fault .tableOutOfRange⟩] := by decide

/-- `demo` with M1's parked write alone on the walk in context 0, its entry behind an Issued one, A2 posting and halting. -/
def demoWaitingWrite : State :=
  { demo.setAperture 2 { exampleWalked with count := 1, posting := true, haltOnFault := true } with
    contexts := #v[some exampleWalk, none], park := [exampleWriteSlot]
    queues := demo.queues.set 1
      ⟨[], [⟨3, 0, 0x80000000, [⟨7, 255⟩], 5, .issued 0x120000000, true, false⟩, exampleHole]⟩ }

theorem test_meets_TheWaiterOfAWalkIsServedOrFaulted :
    (let s := demoWalking .none
     s.resetLow = false ∧ s.context 0 = some exampleWalk ∧ exampleWalk.read = .none ∧ exampleWalk.stale = false ∧
     s.park.filter (fun x => x.placement = .waiting 0) = [exampleSlot] ∧ (∀ x ∈ s.park, x.placement ≠ .queued) ∧
     exampleSlot.aperture = exampleWalk.aperture ∧ (s.port 1).state ≠ .resetting ∧ (s.aperture 2).state = .opened ∧
     s.check .read .readWrite 0x3C07B = none ∧ s.check .read .write 0x3C07B = some .accessDenied) ∧
    (let s := demoWaitingWrite
     s.park.filter (fun x => x.placement = .waiting 0) = [exampleWriteSlot] ∧ exampleWriteSlot.kind = .write ∧
     s.check .write .readWrite 0x3C07B = none ∧
     (s.queue 1).writes =
       [⟨3, 0, 0x80000000, [⟨7, 255⟩], 5, .issued 0x120000000, true, false⟩] ++ exampleHole :: [] ∧
     exampleHole.state = .untranslated ∧ exampleHole.tag = exampleWriteSlot.tag) := by decide
theorem test_meets_WalkReadsAreJudgedByTheirEntry :
    (let s := { demoWalking .issued with inFlight := [.walk 0 2 0x123456708] }
     s.resetLow = false ∧ s.context 0 = some { exampleWalk with read := .issued } ∧
     exampleWalk.phase = .directoryRead ∧ exampleWalk.dirUsed = false ∧ exampleWalk.stale = false ∧
     (∃ k ∈ s.park, k.placement = .waiting 0) ∧ (s.aperture 2).state = .opened ∧ s.dirCache.length < 8 ∧
     (∀ d ∈ s.dirCache, ¬ (d.aperture = 2 ∧ d.index = 2613 / 1024)) ∧ (0x123456708 : Nat) % 8 = 0 ∧
     entryValid 0x00881201 = true ∧ entryValid 0x00881200 = false ∧ s.classify 0x8812 = .normal) ∧
    (entryValid 0x03C07B07 = true ∧ exampleWalked.pageSize = .k4 ∧ (0x3C07B : Nat) % 16 ≠ 0) := by decide
/-- After a valid directory entry: no waiter, a Draining aperture, a stale walk; a full directory cache, one that holds the key;
a block frame out of range. -/
theorem test_meets_WalkReadsAreJudgedByTheirEntry_discards :
    let s := { demoWalking .issued with inFlight := [.walk 0 2 0x123456708] }
    ({ s with park := [] } : State).waiters 0 = [] ∧
    ((s.setAperture 2 { exampleWalked with count := 1, state := .draining }).aperture 2).state = .draining ∧
    ({ s with contexts := #v[some { exampleWalk with stale := true, read := .issued }, none] } : State).context 0 =
      some { exampleWalk with stale := true, read := .issued } := by decide
theorem test_meets_WalkReadsAreJudgedByTheirEntry_fills :
    let s := { demoWalking .issued with inFlight := [.walk 0 2 0x123456708] }
    let filled (dirs : List DirEntry) : List DirEntry :=
      (after (.memoryCompletion (.okay #v[0x00881201, 0, 0, 0, 0, 0, 0, 0])) { s with dirCache := dirs }).dirCache
    filled ((List.range 8).map fun i => ⟨1, i, 5⟩) = (List.range 7).map (fun i => ⟨1, i + 1, 5⟩) ++ [⟨2, 2, 0x8812⟩] ∧
    filled [⟨2, 2, 7⟩, ⟨1, 0, 5⟩] = [⟨1, 0, 5⟩, ⟨2, 2, 0x8812⟩] ∧
    demoRegions.classify (entryFrame 0x0000FF01).toNat = .absent := by decide
theorem test_meets_TicksCountAndExpiriesSettle :
    (busyPart.resetLow = false ∧ ∀ k ∈ busyPart.park, k.limit ≠ 0 → k.ticks < k.limit.toNat) ∧
    (let s := { busyPart with park := [{ exampleSlot with ticks := 3 }, { exampleWriteSlot with ticks := 2 }] }
     ParkLaw s ∧ { exampleSlot with ticks := 3 } ∈ s.park ∧ exampleSlot.limit ≠ 0 ∧
     (s.port 1).state ≠ .resetting ∧ (s.aperture 2).state ≠ .draining ∧ exampleSlot.limit.toNat = 3 ∧
     ∀ x ∈ s.park, x ≠ { exampleSlot with ticks := 3 } → x.limit ≠ 0 → x.ticks < x.limit.toNat) ∧
    (let s := { busyPart with park := [{ exampleSlot with ticks := 4 }] }
     ParkLaw s ∧ { exampleSlot with ticks := 4 } ∈ s.park ∧ exampleSlot.limit.toNat + 1 ≤ 4) := by
  unfold ParkLaw; decide
/-- Two slots that expire at one tick, the older first, with which the drain of their aperture ends. -/
theorem test_meets_TicksCountAndExpiriesSettle_two :
    let s := { demo.setAperture 2 { exampleWalked with count := 2, state := .draining } with
      park := [{ exampleWriteSlot with ticks := 3 }, { exampleSlot with ticks := 3 }] }
    let t := after .tick s
    ParkLaw s ∧ s.drainEnds 2 2 = true ∧ (t.aperture 2).state = .closed ∧ t.park = [] ∧
    (t.port 1).completions = [⟨2, .timeout⟩, ⟨0, .timeout⟩] := by unfold ParkLaw; decide
theorem test_meets_TicksCountAndExpiriesSettle_notDue :
    let s := { demo with park := [{ exampleSlot with ticks := 3 }] }
    ∀ k ∈ s.park, k.num = 0 → ¬ (k.limit ≠ 0 ∧ k.limit.toNat + 1 ≤ k.ticks) := by decide
theorem test_meets_PushJudgesTheKindThenTheSpace :
    (5 : BitVec 3).toNat = 5 ∧ (demo.staging.kind.toNat ≤ 4 ∧ demo.resetLow = false) ∧
    8 ≤ ({ demo with invQueue := List.replicate 8 ⟨.page, 0, 0, false, 0, 0⟩ } : State).invQueue.length ∧
    (busyPart.invQueue.length < 8 ∧ busyPart.invQueue ≠ []) := by decide

/-- `demo` with one command at the head of the queue. -/
def demoCommand (q : InvCommand) : State := { demo with invQueue := [q] }

theorem test_meets_InvalidationsRemoveExactlyWhatTheyCover :
    (demo.resetLow = false ∧ demo.fenceWaiting = false ∧ (demo.aperture 2).state ≠ .closed ∧
      2 ^ exampleWalked.sizeCode.toNat * 2 ^ 20 / exampleWalked.pageSize.bytes = 4096) ∧
    (demoCommand ⟨.page, 2, 0, false, 4095, 0⟩).invQueue = [⟨.page, 2, 0, false, 4095, 0⟩] ∧
    ((4095 : BitVec 16).toNat < 4096 ∧ ¬ (4096 : BitVec 16).toNat < 4096) ∧
    ((1 : BitVec 16).toNat ≠ 0 ∧ (4095 : BitVec 16).toNat + (1 : BitVec 16).toNat ≤ 4096 ∧
      ¬ (4095 : BitVec 16).toNat + (2 : BitVec 16).toNat ≤ 4096) ∧
    ((3 : BitVec 16).toNat < 4096 / 1024 ∧ ¬ ((4 : BitVec 16).toNat < 4096 / 1024 ∨ (4 : BitVec 16).toNat = 0)) := by decide
/-- A Closed aperture named; a fence that waits; a command behind the head. -/
theorem test_meets_InvalidationsRemoveExactlyWhatTheyCover_others :
    (demo.aperture 0).state = .closed ∧ demoBehindFence.fenceWaiting = true ∧
    (let s := { demo with invQueue := demoBehindFence.invQueue.tail }
     s.fenceWaiting = false ∧ s.invQueue = ⟨.page, 2, 0, false, 10, 0⟩ :: s.invQueue.tail ∧ s.invQueue.tail ≠ []) := by
  decide
theorem test_meets_PushOnAnEmptyQueueHandlesTheCommand :
    let s (k : BitVec 3) : State := { demo with staging := { Staging.reset with kind := k, aperture := 2 } }
    (∀ k, (s k).resetLow = false ∧ (s k).invQueue = [] ∧ (s k).fenceWaiting = false ∧ (s k).staging.kind = k) ∧
    (demo.aperture demo.staging.aperture).state = .closed := ⟨fun _ => ⟨rfl, rfl, rfl, rfl⟩, by decide⟩
theorem test_meets_FencesMarkCountAndComplete :
    (let s := { demoReading false with invQueue := [⟨.fence, 0, 0x0101, true, 0, 0⟩] }
     s.resetLow = false ∧ s.fenceWaiting = false ∧ s.inFlight.countP (fun x => x.item.isSome) ≠ 0) ∧
    (demoCommand ⟨.fence, 0, 0, false, 0, 0⟩).inFlight.countP (fun x => x.item.isSome) = 0 ∧
    (let s := { demoCommand ⟨.fence, 0, 0x0101, true, 0, 0⟩ with fenceWaiting := true }
     s.fenceWaiting = true ∧ s.fenceCounter = 0) := by decide
/-- A fence that has started and waits; one with no item, and one whose counter is 0, with a command behind it. -/
theorem test_meets_FencesMarkCountAndComplete_others :
    (demoBehindFence.invQueue.head?.map (·.kind) = some .fence ∧ demoBehindFence.fenceWaiting = true ∧
      demoBehindFence.fenceCounter ≠ 0) ∧
    (let s := { demoBehindFence with inFlight := [], fenceCounter := 0 }
     s.itemCount = 0 ∧ s.fenceWaiting = true ∧ s.fenceCounter = 0 ∧ s.invQueue.tail ≠ []) := by decide
theorem test_meets_ReportsCoalesceAddOrDrop :
    busyPart.log = [] ++ [⟨.noAperture, 1, 0, none, .read, 0x90000000, none, 255⟩] ∧
    (0x90000FF8 : Word).toNat / 4096 = (0x90000000 : Word).toNat / 4096 ∧
    (0x90001000 : Word).toNat / 4096 ≠ (0x90000000 : Word).toNat / 4096 ∧
    (demo.log = [] ∧ demo.log.length < 8) ∧
    ¬ (List.replicate 8 (⟨.noAperture, 1, 0, none, .read, 0x90000000, none, 1⟩ : FaultRecord)).length < 8 := by decide
theorem test_meets_PopRemovesTheOldestRecord :
    demo.resetLow = false ∧ demo.log = [] ∧
    busyPart.log = ⟨.noAperture, 1, 0, none, .read, 0x90000000, none, 255⟩ :: [] ∧
    busyPart.readWord (.faultRecord 3) = 0x00FF0000 := by decide
theorem test_meets_CausesAndEnablesDriveTheInterrupt : busyPart.resetLow = false := by decide
/-- The last word of each unassigned range of section 10.1, and the words that show a busy part. -/
theorem test_meets_StoredWordsReadBack :
    busyPart.resetLow = false ∧ 4 * (11 : WordIndex).toNat = 0x02C ∧ 4 * (23 : WordIndex).toNat = 0x05C ∧
    4 * (31 : WordIndex).toNat = 0x07C ∧ 4 * (38 : WordIndex).toNat = 0x098 ∧ 4 * (69 : WordIndex).toNat % 0x20 = 0x14 ∧
    busyPart.readWord .globalStatus = 0x01014202 ∧ busyPart.readWord .queueStatus = 0x00010011 ∧
    busyPart.readWord (.portControl 1) = 0x00000201 ∧ busyPart.readWord (.status 2) = 0x00030001 := by decide
theorem test_meets_StoredWordsReadBack_fields :
    (demo.setAperture 2 { exampleWalked with posting := true }).readWord (.descriptor 2 .attributes) = 0x000A0084 ∧
    (demo.setAperture 2 { exampleWalked with haltOnFault := true }).readWord (.descriptor 2 .attributes) = 0x000A0104 ∧
    (after (.stagingWrite .one 0x00030010) demo).staging.firstPage = 16 := by decide
theorem test_meets_FullWritesReachTheOwnerOfTheWord :
    demo.resetLow = false ∧ 4 * (0 : WordIndex).toNat = 0x000 ∧ 4 * (9 : WordIndex).toNat = 0x024 ∧
    4 * (22 : WordIndex).toNat = 0x058 ∧ 4 * (23 : WordIndex).toNat = 0x05C ∧ 4 * (28 : WordIndex).toNat = 0x070 ∧
    4 * (63 : WordIndex).toNat = 0x0FC ∧ 4 * (68 : WordIndex).toNat % 0x20 = 0x10 ∧
    4 * (127 : WordIndex).toNat = 0x1FC ∧ 4 * (128 : WordIndex).toNat = 0x200 ∧ 4 * (1023 : WordIndex).toNat = 0xFFC := by
  decide
theorem test_meets_DiscardedWritesAreRecorded :
    demo.resetLow = false ∧ ((0 : Word) ≠ 1 ∧ (0 : Word) ≠ 2 ∧ (0 : Word) ≠ 3 ∧ (0 : Word) ≠ 4) ∧
    ((14 : BitVec 4) ≠ 0 ∧ (14 : BitVec 4) ≠ 15) := by decide
theorem test_meets_SoftResetReturnsThePartToReset : busyPart.resetLow = false := by decide
theorem test_meets_NothingHappensWhileResetIsLow :
    (after .pinReset busyPart).resetLow = true ∧
    exec (.arrival 1 exampleRead) (after .pinReset busyPart) =
      .next (after (.arrival 1 exampleRead) (after .pinReset busyPart)) ∧
    1 ≤ exampleRead.length ∧ exampleRead.length ≤ 8 ∧ ((after .pinReset busyPart).port 1).pendingArrival = none :=
  ⟨by decide, exec_eq_next_after rfl, by decide, by decide, by decide⟩
theorem test_meets_ReleaseLatchesTheStrap :
    let s := after .pinReset busyPart
    let t := after (.arrival 1 exampleRead) s
    (s.resetLow = true ∧ ∀ m, (s.port m).pendingArrival = none) ∧
    t.resetLow = true ∧ (t.port 1).pendingArrival = some exampleRead ∧
    ∀ o, o ≠ 1 → (t.port o).pendingArrival = none := by decide
/-- Two requests that wait, in the order M3, M1, under either strap. -/
theorem test_meets_ReleaseLatchesTheStrap_waiting :
    let s := after (.arrival 3 linearRead) (after (.arrival 1 exampleRead) (after .pinReset busyPart))
    let waited : List (Master × Request) := [(3, linearRead), (1, exampleRead)]
    s.resetLow = true ∧ (waited.map (·.1)).Nodup ∧
    (∀ x ∈ waited, (s.port x.1).pendingArrival = some x.2 ∧ 1 ≤ x.2.length ∧ x.2.length ≤ 8) ∧
    (∀ m, m ∉ waited.map (·.1) → (s.port m).pendingArrival = none) ∧
    (after (.resetRelease true [3, 1]) s).trace.take 2 =
      [.answer 1 0 (.refuse .noAperture), .answer 3 1 (.refuse .noAperture)] := by decide

end Sys2Proof.Machine
end

/-! PROOFS. The access check and the region check (sections 3.3 and 3.4): which region classifies a frame, and what the two
checks answer for each class. -/

namespace Sys2Proof.Machine

/-! ## The region of a frame (R58) -/

/-- The search of `State.classify` takes the regions in the order of their numbers. -/
theorem find?_allRegions_eq (p : RegionId → Bool) : allRegions.find? p = Fin.find? p := by
  have allRegions_eq : allRegions = List.finRange 4 := by decide
  rw [allRegions_eq, Fin.find?_eq_find?_finRange]

/-- The lowest-numbered region whose end frame is above a frame gives the frame its class. -/
theorem State.classify_eq_of_lowest_end_above {s : State} {f : Nat} {i : RegionId}
    (above : f < (s.regions[i]).endFrame.toNat) (lowest : ∀ j : RegionId, j < i → (s.regions[j]).endFrame.toNat ≤ f) :
    s.classify f = (s.regions[i]).attr.frameClass := by
  have found : allRegions.find? (fun i => decide (f < (s.regions[i]).endFrame.toNat)) = some i := by
    rw [find?_allRegions_eq, Fin.find?_eq_some_iff]
    exact ⟨decide_eq_true above, fun j hj => decide_eq_false (lowest j hj).not_gt⟩
  rw [State.classify, found]

/-- A frame at or above every end frame lies in no region. -/
theorem State.classify_eq_uncovered_of_ends_le {s : State} {f : Nat}
    (ends : ∀ i : RegionId, (s.regions[i]).endFrame.toNat ≤ f) : s.classify f = .uncovered := by
  have notFound : allRegions.find? (fun i => decide (f < (s.regions[i]).endFrame.toNat)) = none := by
    rw [find?_allRegions_eq, Fin.find?_eq_none_iff]
    exact fun i => decide_eq_false (ends i).not_gt
  rw [State.classify, notFound]

/-- The table's end frames are at most 16,777,216 (R57), so a frame from there on lies in no region. -/
theorem RegionLaw.classify_eq_uncovered {s : State} {f : Nat} (law : RegionLaw s) (high : Config.frames ≤ f) :
    s.classify f = .uncovered :=
  State.classify_eq_uncovered_of_ends_le fun i => (law i).trans high

theorem State.outOfRange_iff (s : State) (f : Nat) :
    s.outOfRange f = true ↔ s.classify f = .uncovered ∨ s.classify f = .absent := by
  unfold State.outOfRange
  cases s.classify f <;> simp

/-- Settles O24: the search through the regions stops at the lowest-numbered one whose end frame is above the frame. -/
theorem regionTableClassifiesByTheLowestEnd : Obligations.RegionTableClassifiesByTheLowestEnd := by
  intro s f
  refine ⟨fun i above lowest => ?_, State.classify_eq_uncovered_of_ends_le, s.outOfRange_iff f,
    RegionLaw.classify_eq_uncovered⟩
  rw [State.classify_eq_of_lowest_end_above above lowest]
  cases (s.regions[i]).attr <;> rfl

/-! ## The two checks (R60 to R62) -/

/-- The access check comes first: without the rights the region table is not asked. -/
theorem State.check_of_not_permitted {s : State} {kind : AccessKind} {rights : MapAccess} {f : Nat}
    (h : permits rights kind = false) : s.check kind rights f = some .accessDenied := by
  simp [State.check, h]

/-- With the rights, the region check decides. -/
theorem State.check_of_permitted {s : State} {kind : AccessKind} {rights : MapAccess} {f : Nat}
    (h : permits rights kind = true) : s.check kind rights f = s.regionCheck kind f := by
  simp [State.check, h]

theorem State.regionCheck_of_outOfRange {s : State} {f : Nat} (kind : AccessKind)
    (h : s.classify f = .uncovered ∨ s.classify f = .absent) : s.regionCheck kind f = some .outOfRange := by
  rcases h with uncovered | absent
  · simp [State.regionCheck, uncovered]
  · simp [State.regionCheck, absent]

theorem State.regionCheck_write_of_readOnly {s : State} {f : Nat} (h : s.classify f = .readOnly) :
    s.regionCheck .write f = some .regionReadOnly := by
  simp [State.regionCheck, h]

theorem State.regionCheck_read_of_readOnly {s : State} {f : Nat} (h : s.classify f = .readOnly) :
    s.regionCheck .read f = none := by
  simp [State.regionCheck, h]

theorem State.regionCheck_of_normal {s : State} {f : Nat} (kind : AccessKind) (h : s.classify f = .normal) :
    s.regionCheck kind f = none := by
  simp [State.regionCheck, h]

/-- Settles O23: the table of R61 row by row, and the table of R62 once the access check has passed. -/
theorem accessAndRegionChecks : Obligations.AccessAndRegionChecks := by
  refine ⟨⟨fun _ => rfl, ⟨rfl, rfl⟩, ⟨rfl, rfl⟩, fun _ => rfl, ⟨rfl, rfl⟩, fun _ => rfl⟩, ?_⟩
  intro s f kind rights
  refine ⟨State.check_of_not_permitted, fun permitted => ?_⟩
  rw [State.check_of_permitted permitted]
  refine ⟨State.regionCheck_of_outOfRange kind, ?_, ?_, State.regionCheck_of_normal kind⟩
  · rintro readOnly rfl
    exact State.regionCheck_write_of_readOnly readOnly
  · rintro readOnly rfl
    exact State.regionCheck_read_of_readOnly readOnly

end Sys2Proof.Machine

/-! PROOFS. The fault log and the interrupt (chapter 9): where a fault report goes, what a Pop removes and the record words
show, and how the causes and their enables drive INT#. -/

namespace Sys2Proof.Machine

/-- With RESET# high a command has its effect. -/
theorem whenReleased_of_high {s : State} (high : s.resetLow = false) (f : State → State) :
    whenReleased s f = .next (f s) := by
  simp [whenReleased, high]

/-! ## A fault report (R158 to R160) -/

theorem FaultRecord.sameFault_iff (a b : FaultRecord) : a.sameFault b = true ↔
    a.kind = b.kind ∧ a.master = b.master ∧ a.aperture = b.aperture ∧ a.access = b.access ∧
      a.address.toNat / 4096 = b.address.toNat / 4096 := by
  simp [FaultRecord.sameFault, and_assoc]

/-- A record that is not the newest stays as it is. -/
theorem coalesce_cons_of_ne_nil (r x : FaultRecord) {l : List FaultRecord} (nonempty : l ≠ []) :
    coalesce r (x :: l) = (coalesce r l).map (x :: ·) := by
  cases l with
  | nil => contradiction
  | cons y ys => rfl

/-- Only the newest record is compared (R158). -/
theorem coalesce_append_newest (r newest : FaultRecord) (older : List FaultRecord) :
    coalesce r (older ++ [newest]) = if r.sameFault newest then some (older ++ [newest.bump]) else none := by
  induction older with
  | nil => rfl
  | cons x older ih =>
    rw [List.cons_append, coalesce_cons_of_ne_nil r x (by simp), ih]
    split <;> rfl

theorem coalesce_eq_none {r : FaultRecord} {l : List FaultRecord}
    (unmatched : ∀ older newest, l = older ++ [newest] → ¬ r.sameFault newest) : coalesce r l = none := by
  rcases List.eq_nil_or_concat' l with rfl | ⟨older, newest, rfl⟩
  · rfl
  · rw [coalesce_append_newest, if_neg (unmatched older newest rfl)]

/-- A report that matches the newest record coalesces, also when the log is full (R158 step 1, R159). -/
theorem report_of_match {r newest : FaultRecord} {older : List FaultRecord} {s : State}
    (log : s.log = older ++ [newest]) (same : r.sameFault newest) :
    report r s = setCause .faultLogged { s with log := older ++ [newest.bump] } := by
  rw [report, log, coalesce_append_newest, if_pos same]

/-- A report that does not coalesce is added while there is room, and dropped otherwise (R158 steps 2 and 3, R160). -/
theorem report_of_no_match {r : FaultRecord} {s : State}
    (unmatched : ∀ older newest, s.log = older ++ [newest] → ¬ r.sameFault newest) :
    report r s = if s.log.length < Config.logEntries then setCause .faultLogged { s with log := s.log ++ [r] }
      else setCause .logOverflow { s with overflow := true } := by
  rw [report, coalesce_eq_none unmatched]

/-- Settles O52: the report is compared with the last record of the log and with no other. -/
theorem reportsCoalesceAddOrDrop : Obligations.ReportsCoalesceAddOrDrop := by
  intro r s
  refine ⟨fun older newest log kind master aperture access page => ?_, fun unmatched => ?_⟩
  · exact report_of_match log ((r.sameFault_iff newest).mpr ⟨kind, master, aperture, access, page⟩)
  · exact report_of_no_match fun older newest log same =>
      unmatched older newest log ((r.sameFault_iff newest).mp same)

/-! ## The record words and the Pop (R162, R180) -/

theorem popRecord_of_log_nil {s : State} (empty : s.log = []) : popRecord s = s := by
  rw [popRecord, empty, List.tail_nil, ← empty]

theorem popRecord_of_log_cons {s : State} {r : FaultRecord} {rest : List FaultRecord} (log : s.log = r :: rest) :
    popRecord s = { s with log := rest } := by
  rw [popRecord, log, List.tail_cons]

theorem State.readWord_faultRecord_of_log_nil {s : State} (empty : s.log = []) (k : Fin 4) :
    s.readWord (.faultRecord k) = 0 := by
  simp [State.readWord, empty]

/-- The record words are those of the oldest record (R161). -/
theorem State.readWord_faultRecord_of_log_cons {s : State} {r : FaultRecord} {rest : List FaultRecord}
    (log : s.log = r :: rest) (k : Fin 4) : s.readWord (.faultRecord k) = r.word k := by
  simp [State.readWord, log]

theorem accessCode_mul (a : AccessKind) (n : Nat) : accessCode a * n = if a = .write then n else 0 := by
  cases a <;> simp [accessCode]

theorem FaultRecord.word_zero (r : FaultRecord) : r.word 0 = BitVec.ofNat 32 (2 ^ 31 +
    (if r.access = .write then 2 ^ 12 else 0) + r.tag.val * 2 ^ 8 + r.master.val * 2 ^ 4 + r.kind.code) := by
  rw [← accessCode_mul]
  simp [FaultRecord.word, packWord, Nat.add_assoc]

theorem FaultRecord.word_one (r : FaultRecord) : r.word 1 = r.address := rfl

theorem FaultRecord.word_two_of_none {r : FaultRecord} (frame : r.frame = none) : r.word 2 = 0 := by
  simp [FaultRecord.word, frame]

theorem FaultRecord.word_two_of_some {r : FaultRecord} {f : Frame} (frame : r.frame = some f) :
    r.word 2 = BitVec.ofNat 32 (2 ^ 31 + f.toNat) := by
  simp [FaultRecord.word, frame, packWord]

theorem FaultRecord.word_three_of_none {r : FaultRecord} (aperture : r.aperture = none) :
    r.word 3 = BitVec.ofNat 32 (r.repeats * 2 ^ 16) := by
  simp [FaultRecord.word, aperture, packWord]

theorem FaultRecord.word_three_of_some {r : FaultRecord} {n : ApertureId} (aperture : r.aperture = some n) :
    r.word 3 = BitVec.ofNat 32 (r.repeats * 2 ^ 16 + 2 ^ 15 + n.val) := by
  simp [FaultRecord.word, aperture, packWord, Nat.add_assoc]

/-- Settles O53: a Pop takes the head of the log, and the record words are the four words of that head. -/
theorem popRemovesTheOldestRecord : Obligations.PopRemovesTheOldestRecord := by
  refine ⟨fun v s high => ⟨rfl, fun empty => ?_, fun _ _ log => ?_⟩,
    fun s => ⟨State.readWord_faultRecord_of_log_nil, fun r rest log => ?_⟩⟩
  · exact (whenReleased_of_high high popRecord).trans (congrArg _ (popRecord_of_log_nil empty))
  · exact (whenReleased_of_high high popRecord).trans (congrArg _ (popRecord_of_log_cons log))
  · intro code
    have code_eq : code = r.kind.code := by
      unfold code
      cases r.kind with
      | translation k => cases k <;> rfl
      | _ => rfl
    simp only [State.readWord_faultRecord_of_log_cons log, code_eq]
    exact ⟨r.word_zero, r.word_one, FaultRecord.word_two_of_none, fun _ => FaultRecord.word_two_of_some,
      FaultRecord.word_three_of_none, fun _ => FaultRecord.word_three_of_some⟩

/-! ## The causes, their enables and INT# (R164, R165, R178) -/

/-- Bit 1 of a cause write is LogOverflow's, which clears the overflow flag as well (R164). -/
theorem and_logOverflow_mask_ne_zero (v : BitVec 10) : (v &&& Cause.logOverflow.mask != 0) = v.getLsbD 1 := by
  have mask : Cause.logOverflow.mask = BitVec.twoPow 10 1 := rfl
  rw [mask, BitVec.and_twoPow]
  cases v.getLsbD 1 <;> rfl

/-- A cause write clears, of the bits that name a cause, those that carry 1. -/
theorem writeCause_eq (v : Word) (s : State) : writeCause v s =
    { s with causes := s.causes &&& ~~~v.extractLsb' 0 10, overflow := s.overflow && !v.getLsbD 1 } := by
  rw [writeCause, clearCauses, and_logOverflow_mask_ne_zero, BitVec.getLsbD_extractLsb']
  cases v.getLsbD 1 <;> simp

/-- A 1 written to a bit of the cause word that names no cause has no effect: the bit reads 0 in any case. -/
theorem setWidth_and_not_extractLsb' (causes : BitVec 10) (v : Word) :
    (causes &&& ~~~v.extractLsb' 0 10).setWidth 32 = causes.setWidth 32 &&& ~~~v := by
  ext i hi
  by_cases low : i < 10
  · simp [low, BitVec.getLsbD_eq_getElem hi]
  · simp [low, BitVec.getLsbD_of_ge causes i (by omega)]

theorem setWidth_extractLsb' (v : Word) : (v.extractLsb' 0 10).setWidth 32 = v &&& 0x3FF := by
  apply BitVec.eq_of_toNat_eq
  have mask : v.toNat &&& 1023 = v.toNat % 1024 := Nat.and_two_pow_sub_one_eq_mod v.toNat 10
  have small : v.toNat % 1024 < 4294967296 := by omega
  simpa [mask] using small

theorem setWidth_eq_zero_iff (x : BitVec 10) : x.setWidth 32 = 0 ↔ x = 0 := by
  rw [← BitVec.toNat_inj, ← BitVec.toNat_inj, BitVec.toNat_setWidth_of_le (by decide)]
  rfl

/-- Widening the causes and the enables to words adds no bit to their conjunction (R165, R178). -/
theorem State.intAsserted_iff {s : State} (high : s.resetLow = false) :
    s.intAsserted = true ↔ s.readWord .cause &&& s.readWord .causeEnable ≠ 0 := by
  have words : s.readWord .cause &&& s.readWord .causeEnable = (s.causes &&& s.enables).setWidth 32 :=
    BitVec.setWidth_and.symm
  rw [words, Ne, setWidth_eq_zero_iff]
  simp [State.intAsserted, high]

/-- Settles O54: each of the two writes as one update of the state, read back through the word it was written to. -/
theorem causesAndEnablesDriveTheInterrupt : Obligations.CausesAndEnablesDriveTheInterrupt := by
  intro v s high
  refine ⟨⟨writeCause v s, whenReleased_of_high high _, ?_⟩,
    ⟨writeCauseEnable v s, whenReleased_of_high high _, setWidth_extractLsb' v, rfl⟩, State.intAsserted_iff high⟩
  rw [writeCause_eq]
  exact ⟨setWidth_and_not_extractLsb' s.causes v, rfl, rfl⟩

end Sys2Proof.Machine

/-! PROOFS. What the part does inside an event, as a chain of moves: each move is one operation of the model with the
condition under which it is made. Every composite operation is such a chain, so that a law of the state is proved once for
each move. -/

namespace Sys2Proof.Machine

/-! ## The moves -/

/-- A parked request leaves the table with a completion that carries no Okay: its completion, its write entry removed, its slot
freed, its retirement (R78, R96). -/
def leaveSlot (k : ParkSlot) (status : CompletionStatus) (s : State) : State :=
  retire k.aperture (freeSlot k.num (dropParkedWrite k (pushCompletion k.master ⟨k.tag, status⟩ s)))

/-- A completion that reports a failure. -/
def CompletionStatus.failed : CompletionStatus → Bool
  | .okayRead _ | .okayWrite => false
  | .fault _ | .timeout | .aborted | .memoryError => true

/-- Two walks have one key (R69). -/
def Walk.sameKey (v w : Walk) : Prop := v.aperture = w.aperture ∧ v.page = w.page

/-- The slot that a request is parked in. -/
def parkedSlot (num : SlotId) (m : Master) (r : Request) (n : ApertureId) (page arrival : Nat) (place : Placement)
    (limit : BitVec 8) : ParkSlot :=
  ⟨num, m, r.tag, r.kind, n, page, r.address, r.length, arrival, place, limit, 0⟩

/-- A slot becomes busy, at the end of the arrival order (R89, R91). -/
def addSlot (k : ParkSlot) (s : State) : State := { s with park := s.park ++ [k] }

/-- A parked write leaves an Untranslated entry in its master's queue (R111). -/
def leaveHole (m : Master) (r : Request) (n : ApertureId) (arrival : Nat) (s : State) : State :=
  match r.body with
  | .read _ => s
  | .write beats => appendWrite m ⟨r.tag, arrival, r.address, beats, n, .untranslated, false, false⟩ s

/-- A request that can be Taken for aperture `n`: its port is Active, its tag is Free, the aperture is Open, and a write has
room (R31 to R34). -/
structure Takes (s : State) (m : Master) (r : Request) (n : ApertureId) : Prop where
  active : (s.port m).state = .active
  free : (s.port m).tag r.tag = none
  opened : (s.aperture n).state = .opened
  room : r.kind = .write → (s.queue m).writes.length < Config.writeQueueEntries

/-- One move of an event that began in `o`: nothing goes out on a channel, and nothing the host owns changes. The conditions on
a slot that is settled are those the laws of `o` give it. -/
inductive Move (o : State) : State → State → Prop
  | cause (s : State) (c : Cause) : Move o s (setCause c s)
  | report (s : State) (r : FaultRecord) (once : r.repeats = 1) : Move o s (report r s)
  | draw (s : State) (k : Nat) : Move o s { s with freeCount := k }
  | halt (s : State) (n : ApertureId) : Move o s (haltOnFault n s)
  | drain (s : State) (n : ApertureId) : Move o s (drainTest n s)
  | touchPage (s : State) (e : PageEntry) (mem : e ∈ s.pageCache) : Move o s (touchPage e s)
  | fillPage (s : State) (n : ApertureId) (page : Nat) (f : Frame) (a : MapAccess) (keep : Bool) :
      Move o s (fillPage n page f a keep s)
  | touchDir (s : State) (e : DirEntry) (mem : e ∈ s.dirCache) : Move o s (touchDir e s)
  | fillDir (s : State) (w : Walk) (f : Frame) : Move o s (fillDir w f s)
  | begins (s : State) (c : ContextId) (n : ApertureId) (page : Nat) (idle : s.context c = none)
      (live : (s.aperture n).state = .opened ∨ ∃ k ∈ s.queuedSlots, k.aperture = n) :
      Move o s (s.setContext c (some ⟨.directoryRead, n, page, .none, false, false⟩))
  | join (s : State) (c : ContextId) (n : ApertureId) (page : Nat) : Move o s (joinQueued c n page s)
  | enters (s : State) (c : ContextId) (v w : Walk) (walks : s.context c = some v) (key : w.sameKey v)
      (unread : v.read = .none) (unread' : w.read = .none) : Move o s (s.setContext c (some w))
  | pend (s : State) (c : ContextId) (w : Walk) (walks : s.context c = some w) (unread : w.read = .none) :
      Move o s (makePending c w s)
  | idle (s : State) (c : ContextId) (w : Walk) (walks : s.context c = some w) (unread : w.read = .none) :
      Move o s (drainTest w.aperture (s.setContext c none))
  | leave (s : State) (k : ParkSlot) (status : CompletionStatus) (failed : status.failed = true)
      (mem : ParkLaw o → k ∈ s.park) : Move o s (leaveSlot k status s)
  | pass (s : State) (k : ParkSlot) (phys : PhysAddr) (mem : ParkLaw o → k ∈ s.park)
      (live : SweptLaw o → (s.port k.master).state ≠ .resetting) : Move o s (passWaiter k phys s)
  | tick (s : State) : Move o s { s with park := s.park.map ParkSlot.tick }
  | takeFault (s : State) (m : Master) (r : Request) (n : ApertureId) (k : TransFault) (takes : Takes s m r n) :
      Move o s (retire n (haltOnFault n (pushCompletion m ⟨r.tag, .fault k⟩ (admitRequest m r n s))))
  | takeRead (s : State) (m : Master) (r : Request) (n : ApertureId) (arrival beats : Nat) (phys : PhysAddr)
      (takes : Takes s m r n) (body : r.body = .read beats) :
      Move o s (appendRead m ⟨r.tag, arrival, r.address, phys, beats, n, false⟩ (admitRequest m r n s))
  | takeWrite (s : State) (m : Master) (r : Request) (n : ApertureId) (arrival : Nat) (beats : List WriteBeat)
      (phys : PhysAddr) (posting : Bool) (takes : Takes s m r n) (body : r.body = .write beats) :
      Move o s (postOkay m r.tag posting (appendWrite m
        ⟨r.tag, arrival, r.address, beats, n, .translated phys, posting, false⟩ (admitRequest m r n s)))
  | takePark (s : State) (m : Master) (r : Request) (n : ApertureId) (num : SlotId) (page arrival : Nat)
      (place : Placement) (takes : Takes s m r n) (free : ∀ x ∈ s.park, x.num ≠ num) :
      Move o s (addSlot (parkedSlot num m r n page arrival place s.parkTimeout)
        (leaveHole m r n arrival (admitRequest m r n s)))

/-- The chains of moves of an event that began in `o`. -/
abbrev Moves (o : State) : State → State → Prop := Relation.ReflTransGen (Move o)

/-- The states that an event comes to that began in `o`. -/
abbrev Reach (o s : State) : Prop := Moves o o s

/-- A property that every move keeps holds wherever an event comes to. -/
theorem Moves.keep {P : State → Prop} {o s t : State} (moves : Moves o s t) (holds : P s)
    (keeps : ∀ s t, Move o s t → P s → P t) : P t := by
  induction moves with
  | refl => exact holds
  | tail _ move ih => exact keeps _ _ move ih

end Sys2Proof.Machine

/-! PROOFS. What each move of an event writes and what it leaves, and the laws of the park table and of the Resetting ports under
every move (sections 2.6, 5.1). -/

namespace Sys2Proof.Machine

/-! ## What the operations write -/

/-- While a port is Resetting its completions are discarded (R43). -/
theorem pushCompletion_of_resetting {m : Master} {s : State} (resetting : (s.port m).state = .resetting) (c : Completion) :
    pushCompletion m c s = s := by
  simp [pushCompletion, resetting]

theorem pushCompletion_of_live {m : Master} {s : State} (live : (s.port m).state ≠ .resetting) (c : Completion) :
    pushCompletion m c s = s.setPort m { s.port m with completions := (s.port m).completions ++ [c] } := by
  simp [pushCompletion, live]

theorem pushCompletion_port (m : Master) (c : Completion) (s : State) (j : Master) : (pushCompletion m c s).port j =
    if j = m ∧ (s.port m).state ≠ .resetting then { s.port m with completions := (s.port m).completions ++ [c] }
    else s.port j := by
  unfold pushCompletion
  by_cases h : (s.port m).state = .resetting <;> simp [h]

/-- A completion that becomes ready changes no port but in its completion queue. -/
@[simp] theorem pushCompletion_port_fields (m : Master) (c : Completion) (s : State) (j : Master) :
    ((pushCompletion m c s).port j).state = (s.port j).state ∧ ((pushCompletion m c s).port j).tags = (s.port j).tags
      ∧ ((pushCompletion m c s).port j).enable = (s.port j).enable
      ∧ ((pushCompletion m c s).port j).taken = (s.port j).taken
      ∧ ((pushCompletion m c s).port j).pendingArrival = (s.port j).pendingArrival := by
  rw [pushCompletion_port]
  split
  · rename_i h; obtain ⟨rfl, -⟩ := h; simp
  · simp

@[simp] theorem freeSlot_park (k : SlotId) (s : State) : (freeSlot k s).park = s.park.filter (·.num != k) := rfl

@[simp] theorem freeSlot_queue (k : SlotId) (s : State) (j : Master) : (freeSlot k s).queue j = s.queue j := rfl

@[simp] theorem removeHole_queue (m : Master) (t : Tag) (s : State) (j : Master) : (removeHole m t s).queue j =
    if j = m then { s.queue m with writes := (s.queue m).writes.eraseP (·.isHole t) } else s.queue j := by
  simp [removeHole]

theorem dropParkedWrite_queue (k : ParkSlot) (s : State) (j : Master) : (dropParkedWrite k s).queue j =
    if j = k.master ∧ k.kind = .write then { s.queue j with writes := (s.queue j).writes.eraseP (·.isHole k.tag) }
    else s.queue j := by
  unfold dropParkedWrite
  by_cases kind : k.kind = .write <;> by_cases h : j = k.master <;> simp [kind, h]

@[simp] theorem appendRead_queue (m : Master) (e : ReadEntry) (s : State) (j : Master) : (appendRead m e s).queue j =
    if j = m then { s.queue m with reads := (s.queue m).reads ++ [e] } else s.queue j := by
  simp [appendRead]

@[simp] theorem appendWrite_queue (m : Master) (e : WriteEntry) (s : State) (j : Master) : (appendWrite m e s).queue j =
    if j = m then { s.queue m with writes := (s.queue m).writes ++ [e] } else s.queue j := by
  simp [appendWrite]

@[simp] theorem translateHole_queue (m : Master) (t : Tag) (p : PhysAddr) (b : Bool) (s : State) (j : Master) :
    (translateHole m t p b s).queue j =
    if j = m then { s.queue m with
      writes := updateFirst (·.isHole t) (fun e => { e with state := .translated p, posted := b }) (s.queue m).writes }
    else s.queue j := by
  simp [translateHole]

@[simp] theorem postOkay_port_fields (m : Master) (t : Tag) (b : Bool) (s : State) (j : Master) :
    ((postOkay m t b s).port j).state = (s.port j).state ∧ ((postOkay m t b s).port j).tags = (s.port j).tags
      ∧ ((postOkay m t b s).port j).enable = (s.port j).enable
      ∧ ((postOkay m t b s).port j).taken = (s.port j).taken
      ∧ ((postOkay m t b s).port j).pendingArrival = (s.port j).pendingArrival := by
  cases b <;> simp [postOkay]

@[simp] theorem admitRequest_port (m : Master) (r : Request) (n : ApertureId) (s : State) (j : Master) :
    (admitRequest m r n s).port j =
    if j = m then { (s.port m).setTag r.tag (some r.kind) with taken := (s.port m).taken + 1 } else s.port j := by
  simp [admitRequest]

@[simp] theorem admitRequest_aperture (m : Master) (r : Request) (n : ApertureId) (s : State) (j : ApertureId) :
    (admitRequest m r n s).aperture j =
    if j = n then { s.aperture n with count := (s.aperture n).count + 1 } else s.aperture j := by
  simp [admitRequest]

@[simp] theorem leaveHole_frame (m : Master) (r : Request) (n : ApertureId) (a : Nat) (s : State) :
    (leaveHole m r n a s).resetLow = s.resetLow ∧ (leaveHole m r n a s).passLatched = s.passLatched
      ∧ (leaveHole m r n a s).apertures = s.apertures ∧ (leaveHole m r n a s).ports = s.ports
      ∧ (leaveHole m r n a s).pageCache = s.pageCache ∧ (leaveHole m r n a s).dirCache = s.dirCache
      ∧ (leaveHole m r n a s).regions = s.regions ∧ (leaveHole m r n a s).contexts = s.contexts
      ∧ (leaveHole m r n a s).readySeq = s.readySeq ∧ (leaveHole m r n a s).park = s.park
      ∧ (leaveHole m r n a s).inFlight = s.inFlight ∧ (leaveHole m r n a s).rrPointer = s.rrPointer
      ∧ (leaveHole m r n a s).staging = s.staging ∧ (leaveHole m r n a s).invQueue = s.invQueue
      ∧ (leaveHole m r n a s).fenceWaiting = s.fenceWaiting ∧ (leaveHole m r n a s).fenceCounter = s.fenceCounter
      ∧ (leaveHole m r n a s).fenceToken = s.fenceToken ∧ (leaveHole m r n a s).log = s.log
      ∧ (leaveHole m r n a s).overflow = s.overflow ∧ (leaveHole m r n a s).causes = s.causes
      ∧ (leaveHole m r n a s).enables = s.enables ∧ (leaveHole m r n a s).globalEnable = s.globalEnable
      ∧ (leaveHole m r n a s).parkTimeout = s.parkTimeout ∧ (leaveHole m r n a s).progError = s.progError
      ∧ (leaveHole m r n a s).trace = s.trace ∧ (leaveHole m r n a s).freeCount = s.freeCount
      ∧ (leaveHole m r n a s).pending = s.pending := by
  unfold leaveHole
  split <;> simp

@[simp] theorem leaveHole_accessors (m : Master) (r : Request) (n : ApertureId) (a : Nat) (s : State) :
    (∀ j, (leaveHole m r n a s).aperture j = s.aperture j) ∧ (∀ j, (leaveHole m r n a s).port j = s.port j)
      ∧ (∀ j, (leaveHole m r n a s).context j = s.context j) := by
  simp [State.aperture, State.port, State.context]

@[simp] theorem addSlot_park (k : ParkSlot) (s : State) : (addSlot k s).park = s.park ++ [k] := rfl

/-- A slot that becomes busy changes the park table alone. -/
@[simp] theorem addSlot_frame (k : ParkSlot) (s : State) :
    (addSlot k s).resetLow = s.resetLow ∧ (addSlot k s).passLatched = s.passLatched
      ∧ (addSlot k s).apertures = s.apertures ∧ (addSlot k s).ports = s.ports ∧ (addSlot k s).queues = s.queues
      ∧ (addSlot k s).pageCache = s.pageCache ∧ (addSlot k s).dirCache = s.dirCache
      ∧ (addSlot k s).regions = s.regions ∧ (addSlot k s).contexts = s.contexts
      ∧ (addSlot k s).readySeq = s.readySeq ∧ (addSlot k s).inFlight = s.inFlight
      ∧ (addSlot k s).rrPointer = s.rrPointer ∧ (addSlot k s).staging = s.staging
      ∧ (addSlot k s).invQueue = s.invQueue ∧ (addSlot k s).fenceWaiting = s.fenceWaiting
      ∧ (addSlot k s).fenceCounter = s.fenceCounter ∧ (addSlot k s).fenceToken = s.fenceToken
      ∧ (addSlot k s).log = s.log ∧ (addSlot k s).overflow = s.overflow ∧ (addSlot k s).causes = s.causes
      ∧ (addSlot k s).enables = s.enables ∧ (addSlot k s).globalEnable = s.globalEnable
      ∧ (addSlot k s).parkTimeout = s.parkTimeout ∧ (addSlot k s).progError = s.progError
      ∧ (addSlot k s).trace = s.trace ∧ (addSlot k s).freeCount = s.freeCount
      ∧ (addSlot k s).pending = s.pending := by
  simp [addSlot]

@[simp] theorem addSlot_accessors (k : ParkSlot) (s : State) :
    (∀ j, (addSlot k s).aperture j = s.aperture j) ∧ (∀ j, (addSlot k s).port j = s.port j)
      ∧ (∀ j, (addSlot k s).queue j = s.queue j) ∧ (∀ j, (addSlot k s).context j = s.context j) := by
  simp [State.aperture, State.port, State.queue, State.context]

@[simp] theorem leaveSlot_park (k : ParkSlot) (x : CompletionStatus) (s : State) :
    (leaveSlot k x s).park = s.park.filter (·.num != k.num) := by
  simp [leaveSlot]

@[simp] theorem passWaiter_park (k : ParkSlot) (p : PhysAddr) (s : State) :
    (passWaiter k p s).park = s.park.filter (·.num != k.num) := by
  simp only [passWaiter, freeSlot_park]
  split <;> simp

/-- What a settled slot changes besides the park table. -/
@[simp] theorem leaveSlot_frame (k : ParkSlot) (x : CompletionStatus) (s : State) :
    (leaveSlot k x s).resetLow = s.resetLow ∧ (leaveSlot k x s).passLatched = s.passLatched
      ∧ (leaveSlot k x s).regions = s.regions ∧ (leaveSlot k x s).contexts = s.contexts
      ∧ (leaveSlot k x s).readySeq = s.readySeq ∧ (leaveSlot k x s).inFlight = s.inFlight
      ∧ (leaveSlot k x s).rrPointer = s.rrPointer ∧ (leaveSlot k x s).staging = s.staging
      ∧ (leaveSlot k x s).invQueue = s.invQueue ∧ (leaveSlot k x s).fenceWaiting = s.fenceWaiting
      ∧ (leaveSlot k x s).fenceCounter = s.fenceCounter ∧ (leaveSlot k x s).fenceToken = s.fenceToken
      ∧ (leaveSlot k x s).log = s.log ∧ (leaveSlot k x s).overflow = s.overflow
      ∧ (leaveSlot k x s).enables = s.enables ∧ (leaveSlot k x s).globalEnable = s.globalEnable
      ∧ (leaveSlot k x s).parkTimeout = s.parkTimeout ∧ (leaveSlot k x s).progError = s.progError
      ∧ (leaveSlot k x s).trace = s.trace ∧ (leaveSlot k x s).freeCount = s.freeCount
      ∧ (leaveSlot k x s).pending = s.pending := by
  simp [leaveSlot]

@[simp] theorem leaveSlot_context (k : ParkSlot) (x : CompletionStatus) (s : State) (j : ContextId) :
    (leaveSlot k x s).context j = s.context j := by
  simp [State.context]

theorem leaveSlot_port (k : ParkSlot) (x : CompletionStatus) (s : State) (j : Master) :
    (leaveSlot k x s).port j = (pushCompletion k.master ⟨k.tag, x⟩ s).port j := by
  simp [leaveSlot]

@[simp] theorem leaveSlot_port_fields (k : ParkSlot) (x : CompletionStatus) (s : State) (j : Master) :
    ((leaveSlot k x s).port j).state = (s.port j).state ∧ ((leaveSlot k x s).port j).tags = (s.port j).tags
      ∧ ((leaveSlot k x s).port j).enable = (s.port j).enable := by
  simp [leaveSlot_port]

theorem leaveSlot_queue (k : ParkSlot) (x : CompletionStatus) (s : State) (j : Master) : (leaveSlot k x s).queue j =
    if j = k.master ∧ k.kind = .write then { s.queue j with writes := (s.queue j).writes.eraseP (·.isHole k.tag) }
    else s.queue j := by
  simp [leaveSlot, dropParkedWrite_queue]

/-- What a served slot's port is left with. -/
@[simp] theorem passWaiter_port_fields (k : ParkSlot) (p : PhysAddr) (s : State) (j : Master) :
    ((passWaiter k p s).port j).state = (s.port j).state ∧ ((passWaiter k p s).port j).tags = (s.port j).tags
      ∧ ((passWaiter k p s).port j).enable = (s.port j).enable := by
  simp only [passWaiter, freeSlot_accessors]
  split <;> simp

/-! ## The law of the park table -/

theorem ParkLaw.of_park {s t : State} (law : ParkLaw s) (same : t.park = s.park) : ParkLaw t := by
  simpa only [ParkLaw, same] using law

/-- The law looks at the slot numbers alone. -/
theorem ParkLaw.of_map {s t : State} {f : ParkSlot → ParkSlot} (law : ParkLaw s) (park : t.park = s.park.map f)
    (num : ∀ k, (f k).num = k.num) : ParkLaw t := by
  simpa only [ParkLaw, park, List.pairwise_map, num] using law

theorem ParkLaw.of_sublist {s t : State} (law : ParkLaw s) (fewer : t.park.Sublist s.park) : ParkLaw t :=
  List.Pairwise.sublist fewer law

theorem ParkSlot.tick_num (k : ParkSlot) : k.tick.num = k.num := by
  unfold ParkSlot.tick; split <;> rfl

theorem Move.keeps_parkLaw {o s t : State} (move : Move o s t) (law : ParkLaw s) : ParkLaw t := by
  cases move with
  | leave k | pass k => exact law.of_sublist (by simp)
  | join c n page => exact law.of_map rfl fun k => by split <;> rfl
  | tick => exact law.of_map rfl ParkSlot.tick_num
  | takePark m r n num page arrival place takes free =>
    simpa [ParkLaw, List.pairwise_append, parkedSlot] using ⟨law, free⟩
  | _ => exact law.of_park (by simp)

/-! ## What a Resetting port's master has left -/

/-- The law is kept where a port that is Resetting was so before, and its master has come to have nothing more. -/
theorem SweptLaw.keep {s t : State} (law : SweptLaw s)
    (ports : ∀ m, (t.port m).state = .resetting →
      (s.port m).state = .resetting ∧ (t.port m).completions = (s.port m).completions)
    (park : ∀ m, (s.port m).state = .resetting → ∀ k ∈ t.park, k.master = m → ∃ j ∈ s.park, j.master = m)
    (reads : ∀ m, (s.port m).state = .resetting → (t.queue m).reads = (s.queue m).reads)
    (writes : ∀ m, (s.port m).state = .resetting → ∀ e ∈ (t.queue m).writes, e ∈ (s.queue m).writes) : SweptLaw t := by
  intro m resetting
  obtain ⟨before, completions⟩ := ports m resetting
  obtain ⟨slots, noReads, issued, none⟩ := law m before
  refine ⟨fun k hk master => ?_, (reads m before).trans noReads, fun e he => issued e (writes m before e he),
    completions.trans none⟩
  obtain ⟨j, hj, same⟩ := park m before k hk master
  exact slots j hj same

theorem SweptLaw.of_same {s t : State} (law : SweptLaw s) (ports : t.ports = s.ports) (park : t.park = s.park)
    (queues : t.queues = s.queues) : SweptLaw t := by
  refine law.keep (fun m resetting => ?_) (fun m _ k hk master => ⟨k, park ▸ hk, master⟩) (fun m _ => ?_) fun m _ e he => ?_
  · exact ⟨by simpa [State.port, ports] using resetting, by simp [State.port, ports]⟩
  · simp [State.queue, queues]
  · simpa [State.queue, queues] using he

/-- What happens to a master whose port is not Resetting is of no concern to the law. -/
theorem SweptLaw.keep_of_live {s t : State} (law : SweptLaw s) {m : Master} (live : (s.port m).state ≠ .resetting)
    (still : (t.port m).state = (s.port m).state) (ports : ∀ j, j ≠ m → t.port j = s.port j)
    (queues : ∀ j, j ≠ m → t.queue j = s.queue j) (park : ∀ k ∈ t.park, k.master ≠ m → k ∈ s.park) : SweptLaw t := by
  have ne {j : Master} (resetting : (s.port j).state = .resetting) : j ≠ m := by
    rintro rfl; exact live resetting
  refine law.keep (fun j resetting => ?_) (fun j before k hk master => ?_) (fun j before => by rw [queues j (ne before)])
    fun j before e he => by rwa [queues j (ne before)] at he
  · have other : j ≠ m := by rintro rfl; exact live (still ▸ resetting)
    rw [ports j other] at resetting ⊢
    exact ⟨resetting, rfl⟩
  · exact ⟨k, park k hk (master ▸ ne before), master⟩

theorem passWaiter_queue_of_ne {k : ParkSlot} {j : Master} (ne : j ≠ k.master) (p : PhysAddr) (s : State) :
    (passWaiter k p s).queue j = s.queue j := by
  simp only [passWaiter, freeSlot_queue]
  split <;> simp [ne]

theorem postOkay_port_of_ne {m j : Master} (ne : j ≠ m) (t : Tag) (b : Bool) (s : State) :
    (postOkay m t b s).port j = s.port j := by
  cases b <;> simp [postOkay, pushCompletion_port, ne]

theorem passWaiter_port_of_ne {k : ParkSlot} {j : Master} (ne : j ≠ k.master) (p : PhysAddr) (s : State) :
    (passWaiter k p s).port j = s.port j := by
  simp only [passWaiter, freeSlot_accessors]
  split <;> simp [postOkay_port_of_ne ne]

theorem leaveHole_queue_of_ne {m j : Master} (ne : j ≠ m) (r : Request) (n : ApertureId) (a : Nat) (s : State) :
    (leaveHole m r n a s).queue j = s.queue j := by
  unfold leaveHole; split <;> simp [ne]

theorem Takes.live {s : State} {m : Master} {r : Request} {n : ApertureId} (takes : Takes s m r n) :
    (s.port m).state ≠ .resetting := by
  simp [takes.active]

theorem Move.keeps_sweptLaw {o s t : State} (move : Move o s t) (origin : SweptLaw o) (law : SweptLaw s) : SweptLaw t := by
  cases move with
  | leave k =>
    refine law.keep (fun m resetting => ?_) (fun m _ k' hk' master => ?_) (fun m _ => ?_) (fun m _ e he => ?_)
    · have before : (s.port m).state = .resetting := by simpa using resetting
      refine ⟨before, ?_⟩
      rw [leaveSlot_port, pushCompletion_port, if_neg]
      rintro ⟨rfl, h⟩
      exact h before
    · exact ⟨k', by simp_all, master⟩
    · rw [leaveSlot_queue]; split <;> rfl
    · rw [leaveSlot_queue] at he; split at he
      · exact List.mem_of_mem_eraseP he
      · exact he
  | pass k phys mem live =>
    exact law.keep_of_live (live origin) (by simp) (fun j ne => passWaiter_port_of_ne ne phys s)
      (fun j ne => passWaiter_queue_of_ne ne phys s) (by simp +contextual)
  | join c n page =>
    refine law.keep (fun m resetting => ⟨resetting, rfl⟩) (fun m _ k hk master => ?_) (fun m _ => rfl) (fun m _ e he => he)
    obtain ⟨j, hj, rfl⟩ := List.mem_map.1 hk
    exact ⟨j, hj, by rw [← master]; split <;> rfl⟩
  | tick =>
    refine law.keep (fun m resetting => ⟨resetting, rfl⟩) (fun m _ k hk master => ?_) (fun m _ => rfl) (fun m _ e he => he)
    obtain ⟨j, hj, rfl⟩ := List.mem_map.1 hk
    exact ⟨j, hj, by rw [← master]; unfold ParkSlot.tick; split <;> rfl⟩
  | takeFault m r n k takes =>
    exact law.keep_of_live takes.live (by simp [Port.setTag]) (fun j ne => by simp [pushCompletion_port, ne]) (by simp)
      (by simp +contextual)
  | takeRead m r n arrival beats phys takes =>
    exact law.keep_of_live takes.live (by simp [Port.setTag]) (by simp +contextual) (by simp +contextual)
      (by simp +contextual)
  | takeWrite m r n arrival beats phys posting takes =>
    exact law.keep_of_live takes.live (by simp [Port.setTag])
      (fun j ne => (postOkay_port_of_ne ne _ _ _).trans (by simp [ne])) (by simp +contextual) (by simp +contextual)
  | takePark m r n num page arrival place takes =>
    exact law.keep_of_live takes.live (by simp [Port.setTag]) (by simp +contextual)
      (fun j ne => by simp [leaveHole_queue_of_ne ne])
      (by simp +contextual [or_imp, parkedSlot])
  | _ => exact law.of_same (by simp) (by simp) (by simp)

end Sys2Proof.Machine

/-! PROOFS. Reports and completions in either order, chains of moves, and slots settled one after another (sections 4.5, 5.4,
9.1). -/

namespace Sys2Proof.Machine

/-! ## Order of effects on different parts of the state -/

/-- A report writes the log, the overflow flag and the causes alone. -/
theorem report_eq (r : FaultRecord) (s : State) : report r s =
    { s with log := (report r s).log, overflow := (report r s).overflow, causes := (report r s).causes } := by
  unfold report
  cases coalesce r s.log with
  | some l => rfl
  | none => dsimp only; split <;> rfl

/-- What a report writes depends on the log, the overflow flag and the causes alone. -/
theorem report_congr (r : FaultRecord) {s t : State} (log : t.log = s.log) (overflow : t.overflow = s.overflow)
    (causes : t.causes = s.causes) : (report r t).log = (report r s).log ∧
      (report r t).overflow = (report r s).overflow ∧ (report r t).causes = (report r s).causes := by
  unfold report
  rw [log]
  cases coalesce r s.log with
  | some l => simp [setCause, overflow, causes]
  | none => dsimp only; split <;> simp [setCause, overflow, causes]

/-- A report and an operation that neither reads nor writes the log, the overflow flag and the causes can be made in either
order. -/
theorem report_comm (r : FaultRecord) (f : State → State) (s : State)
    (blind : ∀ l o v, f { s with log := l, overflow := o, causes := v } =
      { f s with log := l, overflow := o, causes := v })
    (log : (f s).log = s.log) (overflow : (f s).overflow = s.overflow) (causes : (f s).causes = s.causes) :
    report r (f s) = f (report r s) := by
  obtain ⟨log', overflow', causes'⟩ := report_congr r log overflow causes
  calc report r (f s)
      = { f s with log := (report r (f s)).log, overflow := (report r (f s)).overflow, causes := (report r (f s)).causes } :=
        report_eq r (f s)
    _ = { f s with log := (report r s).log, overflow := (report r s).overflow, causes := (report r s).causes } := by
        rw [log', overflow', causes']
    _ = f (report r s) := (blind _ _ _).symm.trans (congrArg f (report_eq r s).symm)

theorem report_pushCompletion (r : FaultRecord) (m : Master) (c : Completion) (s : State) :
    report r (pushCompletion m c s) = pushCompletion m c (report r s) :=
  report_comm r (pushCompletion m c) s
    (fun l o v => by
      let u : State := { s with log := l, overflow := o, causes := v }
      by_cases h : (s.port m).state = .resetting
      · exact (pushCompletion_of_resetting (s := u) h c).trans (by rw [pushCompletion_of_resetting h])
      · exact (pushCompletion_of_live (s := u) h c).trans (by rw [pushCompletion_of_live h]; rfl))
    (by simp) (by simp) (by simp)

theorem report_admitRequest (x : FaultRecord) (m : Master) (r : Request) (n : ApertureId) (s : State) :
    report x (admitRequest m r n s) = admitRequest m r n (report x s) :=
  report_comm x (admitRequest m r n) s (fun _ _ _ => rfl) (by simp) (by simp) (by simp)

theorem report_touchPage (x : FaultRecord) (e : PageEntry) (s : State) :
    report x (touchPage e s) = touchPage e (report x s) :=
  report_comm x (touchPage e) s (fun _ _ _ => rfl) (by simp) (by simp) (by simp)

/-- The report of a failed check is a report in the state that is left by the draw of the frame it shows. -/
theorem reportCheck_eq (k : TransFault) (m : Master) (t : Tag) (n : ApertureId) (kind : AccessKind) (addr : Word)
    (frame : Nat) (s : State) : reportCheck k m t n kind addr frame s =
      report ⟨.translation k, m, t, some n, kind, addr, if k = .accessDenied then none else some (recordFrame frame s).1, 1⟩
        { s with freeCount := if k = .accessDenied then s.freeCount else (recordFrame frame s).2.freeCount } := by
  have drawn : (recordFrame frame s).2 = { s with freeCount := (recordFrame frame s).2.freeCount } := by
    unfold recordFrame; split <;> rfl
  by_cases denied : k = .accessDenied
  · rw [reportCheck, if_pos denied, if_pos denied, if_pos denied]
  · rw [reportCheck, if_neg denied, if_neg denied, if_neg denied]
    exact congrArg (report ⟨.translation k, m, t, some n, kind, addr, some (recordFrame frame s).1, 1⟩) drawn

/-- The frame that a record shows depends on the number of draws alone. -/
theorem recordFrame_congr (frame : Nat) {s t : State} (same : t.freeCount = s.freeCount) :
    (recordFrame frame t).1 = (recordFrame frame s).1 ∧
      (recordFrame frame t).2.freeCount = (recordFrame frame s).2.freeCount := by
  unfold recordFrame
  split <;> simp [same]

/-- The report of a failed check and an operation that touches nothing of it can be made in either order. -/
theorem reportCheck_comm (k : TransFault) (m : Master) (t : Tag) (n : ApertureId) (kind : AccessKind) (addr : Word)
    (frame : Nat) (f : State → State) (s : State)
    (blind : ∀ c, f { s with freeCount := c } = { f s with freeCount := c }) (count : (f s).freeCount = s.freeCount)
    (reports : ∀ r s, report r (f s) = f (report r s)) :
    reportCheck k m t n kind addr frame (f s) = f (reportCheck k m t n kind addr frame s) := by
  obtain ⟨shown, drawn⟩ := recordFrame_congr frame count
  rw [reportCheck_eq, reportCheck_eq, shown, drawn, count, ← reports]
  exact congrArg (report _) (blind _).symm

theorem reportCheck_pushCompletion (k : TransFault) (m : Master) (t : Tag) (n : ApertureId) (kind : AccessKind) (addr : Word)
    (frame : Nat) (j : Master) (c : Completion) (s : State) :
    reportCheck k m t n kind addr frame (pushCompletion j c s) =
      pushCompletion j c (reportCheck k m t n kind addr frame s) :=
  reportCheck_comm k m t n kind addr frame (pushCompletion j c) s
    (fun v => by
      let u : State := { s with freeCount := v }
      by_cases h : (s.port j).state = .resetting
      · exact (pushCompletion_of_resetting (s := u) h c).trans (by rw [pushCompletion_of_resetting h])
      · exact (pushCompletion_of_live (s := u) h c).trans (by rw [pushCompletion_of_live h]; rfl))
    (by simp) fun r s => report_pushCompletion r j c s

theorem reportCheck_admitRequest (k : TransFault) (m : Master) (t : Tag) (n : ApertureId) (kind : AccessKind) (addr : Word)
    (frame : Nat) (j : Master) (r : Request) (i : ApertureId) (s : State) :
    reportCheck k m t n kind addr frame (admitRequest j r i s) =
      admitRequest j r i (reportCheck k m t n kind addr frame s) :=
  reportCheck_comm k m t n kind addr frame (admitRequest j r i) s (fun _ => rfl) (by simp)
    fun x s => report_admitRequest x j r i s

/-! ## Chains of moves -/

section
variable {o s t : State}

theorem Reach.move (reach : Reach o s) (move : Move o s t) : Reach o t := Relation.ReflTransGen.tail reach move

theorem Reach.parkLaw (reach : Reach o s) (law : ParkLaw o) : ParkLaw s :=
  Moves.keep reach law fun _ _ move => move.keeps_parkLaw

theorem Reach.sweptLaw (reach : Reach o s) (law : SweptLaw o) : SweptLaw s :=
  Moves.keep reach law fun _ _ move => move.keeps_sweptLaw law

theorem Reach.reportCheck (reach : Reach o s) (k : TransFault) (m : Master) (t : Tag) (n : ApertureId) (kind : AccessKind)
    (addr : Word) (frame : Nat) : Reach o (reportCheck k m t n kind addr frame s) := by
  rw [reportCheck_eq]
  exact (reach.move (.draw s _)).move (.report _ _ rfl)

/-! ### Slots that are settled one after another -/

/-- The slots of a list can be settled in turn: they are busy, with different numbers, and on live ports, so far as the laws of
the event's first state say so. -/
structure Pending (o s : State) (l : List ParkSlot) : Prop where
  busy : ParkLaw o → ∀ k ∈ l, k ∈ s.park
  apart : ParkLaw o → l.Pairwise fun a b => a.num ≠ b.num
  live : SweptLaw o → ∀ k ∈ l, (s.port k.master).state ≠ .resetting

/-- Slots chosen from the park table can be settled in turn. -/
theorem Reach.pending_filter (reach : Reach o s) (p : ParkSlot → Bool) : Pending o s (s.park.filter p) where
  busy _ _ hk := (List.mem_filter.1 hk).1
  apart law := List.Pairwise.filter p (reach.parkLaw law)
  live law k hk resetting := (reach.sweptLaw law k.master resetting).1 k (List.mem_filter.1 hk).1 rfl

/-- Settling the first slot leaves the others to be settled. -/
theorem Pending.tail {k : ParkSlot} {l : List ParkSlot} (pending : Pending o s (k :: l))
    (park : t.park = s.park.filter (·.num != k.num)) (ports : ∀ m, (t.port m).state = (s.port m).state) :
    Pending o t l where
  busy law j hj := by
    have apart := List.rel_of_pairwise_cons (pending.apart law) hj
    simp [park, pending.busy law j (by simp [hj]), apart.symm]
  apart law := (pending.apart law).of_cons
  live law j hj := by rw [ports]; exact pending.live law j (by simp [hj])

/-- A way to settle a slot: a chain of moves that frees the slot and leaves the port states. -/
structure Settles (o : State) (f : State → ParkSlot → State) : Prop where
  reach : ∀ s k, Reach o s → (ParkLaw o → k ∈ s.park) → (SweptLaw o → (s.port k.master).state ≠ .resetting) →
    Reach o (f s k)
  park : ∀ s k, (f s k).park = s.park.filter (·.num != k.num)
  ports : ∀ s k m, ((f s k).port m).state = (s.port m).state

theorem Reach.foldl_settle {f : State → ParkSlot → State} (settles : Settles o f) (l : List ParkSlot) (s : State)
    (reach : Reach o s) (pending : Pending o s l) : Reach o (l.foldl f s) := by
  induction l generalizing s with
  | nil => exact reach
  | cons k l ih =>
    refine ih (f s k) (settles.reach s k reach (fun law => pending.busy law k (by simp))
      fun law => pending.live law k (by simp)) (pending.tail (settles.park s k) (settles.ports s k))

theorem faultByWalk_eq (f : WalkFault) (s : State) (k : ParkSlot) : faultByWalk f s k =
    haltOnFault k.aperture (leaveSlot k (.fault (walkFaultKind f))
      (report ⟨.translation (walkFaultKind f), k.master, k.tag, some k.aperture, k.kind, k.address, walkFaultFrame f, 1⟩ s)) := by
  rw [faultByWalk, faultWaiter, report_pushCompletion, leaveSlot]

theorem serveWaiter_eq (f : Frame) (a : MapAccess) (s : State) (k : ParkSlot) : serveWaiter f a s k =
    match s.check k.kind a ((s.aperture k.aperture).walkedAddress f k.address / 4096) with
    | none => passWaiter k (BitVec.ofNat 36 ((s.aperture k.aperture).walkedAddress f k.address)) s
    | some kind => haltOnFault k.aperture (leaveSlot k (.fault kind) (reportCheck kind k.master k.tag k.aperture k.kind
        k.address ((s.aperture k.aperture).walkedAddress f k.address / 4096) s)) := by
  rw [serveWaiter]
  split
  · rename_i h; simp only [h]
  · rename_i h; simp only [h, faultWaiter, leaveSlot, reportCheck_pushCompletion]

theorem expireSlot_eq (s : State) (k : ParkSlot) : expireSlot s k = leaveSlot k .timeout
    (report ⟨.timeout, k.master, k.tag, some k.aperture, k.kind, k.address, none, 1⟩ s) := by
  rw [expireSlot, report_pushCompletion, leaveSlot]

theorem settles_faultByWalk (f : WalkFault) : Settles o (faultByWalk f) where
  reach s k reach mem _ := by
    rw [faultByWalk_eq]
    exact ((reach.move (.report s _ rfl)).move (.leave _ k _ rfl (by simpa using mem))).move (.halt _ _)
  park s k := faultByWalk_park f s k
  ports s k m := by simp [faultByWalk_eq]

theorem settles_serveWaiter (f : Frame) (a : MapAccess) : Settles o (serveWaiter f a) where
  reach s k reach mem live := by
    rw [serveWaiter_eq]
    split
    · exact reach.move (.pass s k _ mem live)
    · exact ((reach.reportCheck _ _ _ _ _ _ _).move (.leave _ k _ rfl (by simpa using mem))).move (.halt _ _)
  park s k := serveWaiter_park f a s k
  ports s k m := by
    rw [serveWaiter_eq]
    split <;> simp

theorem settles_expireSlot : Settles o expireSlot where
  reach s k reach mem _ := by
    rw [expireSlot_eq]
    exact (reach.move (.report s _ rfl)).move (.leave _ k _ rfl (by simpa using mem))
  park s k := by simp [expireSlot_eq]
  ports s k m := by simp [expireSlot_eq]

theorem Reach.takeTick (reach : Reach o s) : Reach o (takeTick s) :=
  .foldl_settle settles_expireSlot _ _ (reach.move (.tick s)) ((reach.move (.tick s)).pending_filter _)

end

end Sys2Proof.Machine

/-! PROOFS. The entries of a walk to its two phases, its judging, and the takeover, as chains of moves (sections 4.2 to 4.6). -/

namespace Sys2Proof.Machine

/-! ## The entries to the two phases of a walk (R71, R74) -/

theorem Walk.sameKey.refl (w : Walk) : w.sameKey w := ⟨rfl, rfl⟩

theorem Walk.sameKey.symm {v w : Walk} (h : v.sameKey w) : w.sameKey v := ⟨h.1.symm, h.2.symm⟩

theorem Walk.sameKey.trans {u v w : Walk} (h : u.sameKey v) (h' : v.sameKey w) : u.sameKey w :=
  ⟨h.1.trans h'.1, h.2.trans h'.2⟩

@[simp] theorem State.setContext_setContext (s : State) (c : ContextId) (v w : Option Walk) :
    (s.setContext c v).setContext c w = s.setContext c w := by
  simp [State.setContext]

@[simp] theorem makePending_setContext (c : ContextId) (v : Option Walk) (w : Walk) (s : State) :
    makePending c w (s.setContext c v) = makePending c w s := by
  simp [makePending]

@[simp] theorem makePending_context (c : ContextId) (w : Walk) (s : State) (d : ContextId) :
    (makePending c w s).context d = if d = c then some { w with read := .pending s.readySeq } else s.context d :=
  s.context_setContext c d _

/-- A walk at its entry to the block phase. -/
def Walk.atBlock (w : Walk) (f : Frame) : Walk := { w with phase := .blockRead f, read := .none }

/-- A walk at its entry to the directory phase, after a miss. -/
def Walk.atDirectory (w : Walk) : Walk := { w with phase := .directoryRead, read := .none, dirUsed := false }

/-- The result with which a walk completes at the entry to its block phase, if it does (R63, R74). -/
def State.blockEntry (s : State) (c : ContextId) (w : Walk) (f : Frame) : Option WalkResult :=
  if (s.waiters c).isEmpty || (s.aperture w.aperture).state = .draining || w.stale then some .discarded
  else if s.outOfRange f.toNat then some (.fault (.tableOutOfRange f))
  else none

/-- An entry ends the walk with a result, or makes its read pending. -/
def enterWith (c : ContextId) (w : Walk) (s : State) (r : Option WalkResult) : State × Option WalkResult :=
  (if r.isSome then s.setContext c (some w) else makePending c w s, r)

theorem enterBlock_eq (c : ContextId) (w : Walk) (f : Frame) (s : State) :
    enterBlock c w f s = enterWith c (w.atBlock f) s (s.blockEntry c w f) := by
  have unfolded : enterBlock c w f s =
      if (s.waiters c).isEmpty || (s.aperture w.aperture).state = .draining then
        (s.setContext c (some (w.atBlock f)), some .discarded)
      else if w.stale then (s.setContext c (some (w.atBlock f)), some .discarded)
      else if s.outOfRange f.toNat then
        (s.setContext c (some (w.atBlock f)), some (.fault (.tableOutOfRange f)))
      else (makePending c (w.atBlock f) (s.setContext c (some (w.atBlock f))), none) := rfl
  rw [unfolded, makePending_setContext]
  unfold enterWith State.blockEntry
  generalize ((s.waiters c).isEmpty || decide ((s.aperture w.aperture).state = .draining)) = ended
  cases ended <;> cases w.stale <;> cases s.outOfRange f.toNat <;> rfl

/-- The result with which a walk completes at the entry to its directory phase after a miss, if it does (R63, R71). -/
def State.directoryEntry (s : State) (w : Walk) : Option WalkResult :=
  if s.outOfRange (s.aperture w.aperture).directoryFrame.toNat then
    some (.fault (.tableOutOfRange (s.aperture w.aperture).directoryFrame))
  else none

theorem enterDirectory_of_miss {w : Walk} {s : State} (miss : s.dirLookup w.aperture (w.page / 1024) = none)
    (c : ContextId) : enterDirectory c w s = enterWith c w.atDirectory s (s.directoryEntry w) := by
  rw [enterDirectory, miss]
  unfold enterWith State.directoryEntry
  cases range : s.outOfRange (s.aperture w.aperture).directoryFrame.toNat <;> simp only [range] <;> rfl

theorem enterDirectory_of_hit {w : Walk} {s : State} {e : DirEntry}
    (hit : s.dirLookup w.aperture (w.page / 1024) = some e) (c : ContextId) : enterDirectory c w s =
      enterWith c ({ w with dirUsed := true }.atBlock e.blockFrame) (touchDir e s)
        (s.blockEntry c { w with dirUsed := true } e.blockFrame) := by
  rw [enterDirectory, hit]
  exact enterBlock_eq c _ _ _

theorem State.mem_of_dirLookup {s : State} {n : ApertureId} {i : Nat} {e : DirEntry} (hit : s.dirLookup n i = some e) :
    e ∈ s.dirCache := List.mem_of_find?_eq_some hit

@[simp] theorem enterWith_snd (c : ContextId) (w : Walk) (s : State) (r : Option WalkResult) :
    (enterWith c w s r).2 = r := rfl

theorem enterWith_context (c : ContextId) (w : Walk) (s : State) (r : Option WalkResult) (d : ContextId) :
    (enterWith c w s r).1.context d = if d = c then some { w with
      read := if r.isSome then w.read else .pending s.readySeq } else s.context d := by
  cases r <;> simp [enterWith]

@[simp] theorem enterWith_setContext (c : ContextId) (w : Walk) (s : State) (r : Option WalkResult) (v : Option Walk) :
    enterWith c w (s.setContext c v) r = enterWith c w s r := by
  cases r <;> simp [enterWith]

/-- An entry looks at no context, and writes the walk's own. -/
@[simp] theorem enterDirectory_setContext (c : ContextId) (w : Walk) (s : State) (v : Option Walk) :
    enterDirectory c w (s.setContext c v) = enterDirectory c w s := by
  cases look : s.dirLookup w.aperture (w.page / 1024) with
  | none =>
    have look' : (s.setContext c v).dirLookup w.aperture (w.page / 1024) = none := look
    rw [enterDirectory_of_miss look, enterDirectory_of_miss look', enterWith_setContext]; rfl
  | some e =>
    have look' : (s.setContext c v).dirLookup w.aperture (w.page / 1024) = some e := look
    rw [enterDirectory_of_hit look, enterDirectory_of_hit look']
    exact enterWith_setContext c _ (touchDir e s) _ v

/-- What an entry leaves in the walk's context: a walk of the same key, its read pending unless the entry ended the walk. -/
structure Entered (c : ContextId) (w : Walk) (s : State) (p : State × Option WalkResult) : Prop where
  others : ∀ d, d ≠ c → p.1.context d = s.context d
  own : ∃ v, p.1.context c = some v ∧ v.sameKey w ∧ (p.2 = none → v.read = .pending s.readySeq) ∧
    ∀ r, p.2 = some r → v.read = .none

theorem entered_enterWith (c : ContextId) {w v : Walk} (key : w.sameKey v) (unread : w.read = .none) (s : State)
    (r : Option WalkResult) : Entered c v s (enterWith c w s r) where
  others d ne := by simp [enterWith_context, ne]
  own := ⟨_, (enterWith_context c w s r c).trans (if_pos rfl), key, by rintro ⟨⟩; rfl, by rintro r ⟨⟩; exact unread⟩

theorem entered_enterBlock (c : ContextId) (w : Walk) (f : Frame) (s : State) : Entered c w s (enterBlock c w f s) := by
  rw [enterBlock_eq]
  exact entered_enterWith c (w := w.atBlock f) (v := w) ⟨rfl, rfl⟩ rfl s _

theorem entered_enterDirectory (c : ContextId) (w : Walk) (s : State) : Entered c w s (enterDirectory c w s) := by
  cases look : s.dirLookup w.aperture (w.page / 1024) with
  | none =>
    rw [enterDirectory_of_miss look]
    exact entered_enterWith c (w := w.atDirectory) (v := w) ⟨rfl, rfl⟩ rfl s _
  | some e =>
    rw [enterDirectory_of_hit look]
    obtain ⟨others, own⟩ := entered_enterWith c (w := { w with dirUsed := true }.atBlock e.blockFrame) (v := w) ⟨rfl, rfl⟩ rfl
      (touchDir e s) (s.blockEntry c { w with dirUsed := true } e.blockFrame)
    exact ⟨fun d ne => (others d ne).trans (by simp), own⟩

section
variable {o s t : State}

theorem Reach.enterWith (reach : Reach o s) {c : ContextId} {v w : Walk} (walks : s.context c = some v)
    (unread : v.read = .none) (key : w.sameKey v) (unread' : w.read = .none) (r : Option WalkResult) :
    Reach o (enterWith c w s r).1 := by
  have entered := reach.move (.enters s c v w walks key unread unread')
  cases r with
  | none => simpa [Machine.enterWith] using entered.move (.pend _ c w (by simp) unread')
  | some r => exact entered

theorem Reach.enterBlock (reach : Reach o s) {c : ContextId} {v w : Walk} (walks : s.context c = some v)
    (unread : v.read = .none) (key : w.sameKey v) (f : Frame) : Reach o (enterBlock c w f s).1 := by
  rw [enterBlock_eq]
  exact reach.enterWith walks unread (w := w.atBlock f) key rfl _

theorem Reach.enterDirectory (reach : Reach o s) {c : ContextId} {v w : Walk} (walks : s.context c = some v)
    (unread : v.read = .none) (key : w.sameKey v) : Reach o (enterDirectory c w s).1 := by
  cases look : s.dirLookup w.aperture (w.page / 1024) with
  | none =>
    rw [enterDirectory_of_miss look]
    exact reach.enterWith walks unread (w := w.atDirectory) key rfl _
  | some e =>
    rw [enterDirectory_of_hit look]
    exact (reach.move (.touchDir s e (State.mem_of_dirLookup look))).enterWith (by simpa using walks) unread
      (w := { w with dirUsed := true }.atBlock e.blockFrame) key rfl _

/-! ## Walk completions -/

/-- A completion to be judged finds the context busy with its read done. -/
def State.awaits (s : State) (c : ContextId) (w : Walk) : Prop := s.context c = some w ∧ w.read = .none

/-- What judging leaves: the walk's context, emptied where the walk has ended, with no other context touched. -/
structure Judged (o : State) (c : ContextId) (w : Walk) (s : State) (p : State × Bool) : Prop where
  others : ∀ d, d ≠ c → p.1.context d = s.context d
  still : p.2 = false → Reach o p.1 ∧ ∃ v, p.1.context c = some v ∧ v.sameKey w
  ended : p.2 = true → ∃ u v, Reach o u ∧ u.awaits c v ∧ v.sameKey w ∧ p.1 = u.setContext c none

theorem foldl_context {f : State → ParkSlot → State} (same : ∀ s k d, (f s k).context d = s.context d)
    (l : List ParkSlot) (s : State) (d : ContextId) : (l.foldl f s).context d = s.context d := by
  induction l generalizing s with
  | nil => rfl
  | cons k l ih => exact (ih (f s k)).trans (same s k d)

theorem Reach.settleWalk (reach : Reach o s) {c : ContextId} {v w : Walk} (waits : s.awaits c v) (key : v.sameKey w)
    (r : WalkResult) : Judged o c w s (settleWalk c w r s) := by
  cases r with
  | discarded => exact ⟨fun _ _ => rfl, fun _ => ⟨reach, v, waits.1, key⟩, by rintro ⟨⟩⟩
  | fault f =>
    have same (d : ContextId) := foldl_context (f := faultByWalk f) (by simp) (s.waiters c) s d
    exact ⟨fun d ne => by simp [Machine.settleWalk, ne, same], by rintro ⟨⟩, fun _ => ⟨_, v,
      .foldl_settle (settles_faultByWalk f) _ s reach (reach.pending_filter _), ⟨(same c).trans waits.1, waits.2⟩, key, rfl⟩⟩
  | success f a keep =>
    let filled := fillPage w.aperture w.page f a keep s
    have same (d : ContextId) : ((filled.waiters c).foldl (serveWaiter f a) filled).context d = s.context d :=
      (foldl_context (by simp) _ filled d).trans (by simp [filled])
    have fill : Reach o filled := reach.move (.fillPage s _ _ _ _ _)
    exact ⟨fun d ne => by simp [Machine.settleWalk, ne, ← same d, filled], by rintro ⟨⟩, fun _ => ⟨_, v,
      .foldl_settle (settles_serveWaiter f a) _ filled fill (fill.pending_filter _), ⟨(same c).trans waits.1, waits.2⟩, key, rfl⟩⟩

theorem Reach.judgeWalk (reach : Reach o s) {c : ContextId} {w : Walk} (waits : s.awaits c w) (r : WalkResult) :
    Judged o c w s (judgeWalk c w r s) := by
  unfold Machine.judgeWalk
  split
  · exact ⟨fun d ne => by simp [ne], by rintro ⟨⟩, fun _ => ⟨s, w, reach, waits, .refl w, rfl⟩⟩
  split
  · have entered := reach.enterDirectory waits.1 waits.2 (w := { w with stale := false }) ⟨rfl, rfl⟩
    obtain ⟨others, v, walks, key, -, unread⟩ := entered_enterDirectory c { w with stale := false } s
    split <;> rename_i entry <;> rw [entry] at entered others walks unread
    · exact ⟨others, fun _ => ⟨entered, v, walks, key⟩, by rintro ⟨⟩⟩
    · have settled := entered.settleWalk ⟨walks, unread _ rfl⟩ (w := w) key
      exact ⟨fun d ne => (settled _).others d ne |>.trans (others d ne), (settled _).still, (settled _).ended⟩
  · exact reach.settleWalk waits (.refl w) r

/-- The Idle report of a context whose walk has ended. -/
theorem Judged.idleReport {c : ContextId} {w : Walk} {p : State × Bool} (judged : Judged o c w s p) (ended : p.2 = true) :
    Reach o (idleReport w.aperture p.1) ∧ (idleReport w.aperture p.1).context c = none := by
  obtain ⟨u, v, reach, waits, key, left⟩ := judged.ended ended
  rw [left, ← key.1]
  exact ⟨reach.move (.idle u c v waits.1 waits.2), by simp [Machine.idleReport]⟩

/-- A walk starts in an Idle context: for a Queued slot, which then joins it, or for an arrival. -/
theorem Reach.startWalk (reach : Reach o s) {c : ContextId} {n : ApertureId} {page : Nat} (idle : s.context c = none)
    (live : (s.aperture n).state = .opened ∨ ∃ k ∈ s.queuedSlots, k.aperture = n) :
    Reach o (startWalk c n page s).1 ∧ Reach o (startWalk c n page (joinQueued c n page s)).1 := by
  have begun := reach.move (.begins s c n page idle live)
  have joined := begun.move (.join _ c n page)
  have first := begun.enterDirectory (c := c) (w := ⟨.directoryRead, n, page, .none, false, false⟩) (by simp) rfl (.refl _)
  have second := joined.enterDirectory (c := c) (w := ⟨.directoryRead, n, page, .none, false, false⟩) (by simp) rfl (.refl _)
  rw [enterDirectory_setContext] at first
  have commute : joinQueued c n page (s.setContext c (some ⟨.directoryRead, n, page, .none, false, false⟩)) =
      (joinQueued c n page s).setContext c (some ⟨.directoryRead, n, page, .none, false, false⟩) := rfl
  rw [commute, enterDirectory_setContext] at second
  exact ⟨first, second⟩

theorem Reach.takeover (fuel : Nat) {c : ContextId} (reach : Reach o s) (idle : s.context c = none) :
    Reach o (takeover fuel c s) := by
  induction fuel generalizing s with
  | zero => exact reach
  | succ fuel ih =>
    unfold Machine.takeover
    split
    · exact reach
    · rename_i k more queued
      have started := (reach.startWalk (page := k.page) idle (.inr ⟨k, by simp [queued], rfl⟩)).2
      obtain ⟨-, v, walks, -, -, unread⟩ := entered_enterDirectory c ⟨.directoryRead, k.aperture, k.page, .none, false, false⟩
        (joinQueued c k.aperture k.page s)
      change (Machine.startWalk c k.aperture k.page _).1.context c = some v at walks
      change ∀ r, (Machine.startWalk c k.aperture k.page _).2 = some r → v.read = .none at unread
      split <;> rename_i entry <;> rw [entry] at started walks unread
      · exact started
      · rw [walks]
        have judged := started.judgeWalk ⟨walks, unread _ rfl⟩ (by assumption)
        dsimp only
        split <;> rename_i result <;> rw [result] at judged
        · exact (judged.still rfl).1
        · obtain ⟨reported, none⟩ := judged.idleReport rfl
          exact ih reported none

theorem Reach.completeWalk (reach : Reach o s) {c : ContextId} (unread : ∀ w, s.context c = some w → w.read = .none)
    (r : WalkResult) : Reach o (completeWalk c r s) := by
  unfold Machine.completeWalk
  split
  · exact reach
  · rename_i w walks
    have judged := reach.judgeWalk ⟨walks, unread w walks⟩ r
    split <;> rename_i result <;> rw [result] at judged
    · exact (judged.still rfl).1
    · obtain ⟨reported, none⟩ := judged.idleReport rfl
      exact reported.takeover _ none

theorem Reach.finishEntry {c : ContextId} {w : Walk} {p : State × Option WalkResult} (reach : Reach o p.1)
    (entered : Entered c w s p) : Reach o (finishEntry c p) := by
  obtain ⟨v, walks, -, -, unread⟩ := entered.own
  unfold Machine.finishEntry
  split
  · exact reach
  · rename_i r ended
    refine reach.completeWalk (fun w busy => ?_) r
    cases walks.symm.trans busy
    exact unread r ended

theorem Reach.directoryDone (reach : Reach o s) {c : ContextId} {w : Walk} (waits : s.awaits c w) (r : BusResult) :
    Reach o (directoryDone c w r s) := by
  have unread (v : Walk) (walks : s.context c = some v) : v.read = .none := by
    cases waits.1.symm.trans walks; exact waits.2
  unfold Machine.directoryDone
  cases r with
  | error => exact reach.completeWalk unread _
  | okay beats =>
    dsimp only
    split
    · split
      · have filled := reach.move (.fillDir s w (entryFrame (entryOfBeat (w.entryAddress (s.aperture w.aperture)) beats[0])))
        exact (filled.enterBlock (by simpa using waits.1) waits.2 (.refl w) _).finishEntry (entered_enterBlock ..)
      · exact (reach.enterBlock waits.1 waits.2 (.refl w) _).finishEntry (entered_enterBlock ..)
    · exact reach.completeWalk unread _

end

end Sys2Proof.Machine

/-! PROOFS. An arrival that is Taken, as a chain of moves (sections 2.3, 3.4, 5.2). -/

namespace Sys2Proof.Machine

section
variable {o s t : State}

/-! ## Arrivals that are Taken (R35) -/

theorem leaveHole_eq (m : Master) (r : Request) (n : ApertureId) (arrival : Nat) (num : SlotId) (page : Nat) (s : State) :
    (match r.body with
      | .read _ => parkRequest num m r n page arrival s
      | .write beats => parkRequest num m r n page arrival
          (appendWrite m ⟨r.tag, arrival, r.address, beats, n, .untranslated, false, false⟩ s)) =
      parkRequest num m r n page arrival (leaveHole m r n arrival s) := by
  unfold leaveHole
  cases r.body <;> rfl

/-- Where a parked request is placed (R69): on the walk of its key, on a walk of its own, or Queued. -/
theorem parkRequest_eq (num : SlotId) (m : Master) (r : Request) (n : ApertureId) (page arrival : Nat) (s : State) :
    parkRequest num m r n page arrival s =
      match s.contextFor n page with
      | some c => addSlot (parkedSlot num m r n page arrival (.waiting c) s.parkTimeout) s
      | none => match s.idleContext with
        | some c => finishEntry c (startWalk c n page
            (addSlot (parkedSlot num m r n page arrival (.waiting c) s.parkTimeout) s))
        | none => addSlot (parkedSlot num m r n page arrival .queued s.parkTimeout) s := rfl

theorem takeMissed_eq (m : Master) (r : Request) (n : ApertureId) (arrival : Nat) (s : State) :
    takeMissed m r n arrival s = match s.freeSlotNumber with
      | none => s
      | some k => parkRequest k m r n ((s.aperture n).pageIndex r.address) arrival (leaveHole m r n arrival s) := by
  unfold takeMissed
  split <;> rename_i free <;> simp only [free]
  exact leaveHole_eq m r n arrival _ _ s

theorem State.idle_of_idleContext {s : State} {c : ContextId} (found : s.idleContext = some c) : s.context c = none := by
  simpa using List.find?_some found

theorem State.free_of_freeSlotNumber {s : State} {k : SlotId} (found : s.freeSlotNumber = some k) :
    ∀ x ∈ s.park, x.num ≠ k := by
  simpa using List.find?_some found

theorem State.freeSlotNumber_congr {s t : State} (park : t.park = s.park) : t.freeSlotNumber = s.freeSlotNumber := by
  simp only [State.freeSlotNumber, park]

theorem State.idleContext_congr {s t : State} (contexts : t.contexts = s.contexts) : t.idleContext = s.idleContext := by
  simp only [State.idleContext, State.context, contexts]

theorem Reach.takeMissed (reach : Reach o s) {m : Master} {r : Request} {n : ApertureId} (takes : Takes s m r n)
    {k : SlotId} (room : s.freeSlotNumber = some k) (arrival : Nat) :
    Reach o (takeMissed m r n arrival (admitRequest m r n s)) := by
  rw [takeMissed_eq, State.freeSlotNumber_congr (s := s) (by simp), room]
  simp only
  have parked (page : Nat) (place : Placement) :=
    reach.move (.takePark s m r n k page arrival place takes (State.free_of_freeSlotNumber room))
  rw [parkRequest_eq]
  split
  · simpa using parked _ _
  · split
    · rename_i c found
      have idle : s.context c = none := by simpa using State.idle_of_idleContext found
      have started := (Reach.startWalk (page := ((admitRequest m r n s).aperture n).pageIndex r.address)
        (parked (((admitRequest m r n s).aperture n).pageIndex r.address) (.waiting c)) (c := c) (n := n)
        (by simpa using idle) (.inl (by simpa using takes.opened))).1
      refine Reach.finishEntry (by simpa using started) (entered_enterDirectory c _ _)
    · simpa using parked _ _

theorem Reach.takeTranslated (reach : Reach o s) {m : Master} {r : Request} {n : ApertureId} (takes : Takes s m r n)
    (arrival : Nat) (rights : MapAccess) (phys : Nat) :
    Reach o (takeTranslated m r n arrival rights phys (admitRequest m r n s)) := by
  unfold Machine.takeTranslated
  split
  · rename_i k _
    rw [reportCheck_pushCompletion, reportCheck_admitRequest]
    exact (reach.reportCheck k m r.tag n r.kind r.address (phys / 4096)).move (.takeFault _ m r n k
      ⟨by simpa using takes.active, by simpa using takes.free, by simpa using takes.opened, by simpa using takes.room⟩)
  · split
    · rename_i beats body
      exact reach.move (.takeRead s m r n arrival beats _ takes body)
    · rename_i beats body
      exact reach.move (.takeWrite s m r n arrival beats _ _ takes body)

/-! ### Judging an arrival -/

/-- Steps 1 to 4 pass (R31, R32). -/
theorem State.formCheck_eq_none {s : State} {m : Master} {r : Request} : s.formCheck m r = none ↔
    (s.port m).state = .active ∧ s.globalEnable = true ∧ (s.port m).tag r.tag = none ∧ r.address.toNat % 8 = 0 ∧
      r.address.toNat % 64 + 8 * r.length ≤ 64 := by
  simp only [State.formCheck]
  cases (s.port m).state <;> cases s.globalEnable <;> cases (s.port m).tag r.tag <;> simp
  by_cases aligned : r.address.toNat % 8 = 0 <;> simp [aligned]

theorem Aperture.admission_eq_none {a : Aperture} {m : Master} : a.admission m = none ↔
    a.masterMask.getLsbD m.val = true ∧ a.state ≠ .draining ∧ a.state ≠ .halted := by
  unfold Aperture.admission
  cases a.masterMask.getLsbD m.val <;> cases a.state <;> simp

theorem State.decode_state {s : State} {x : Word} {n : ApertureId} (found : s.decode x = some n) :
    (s.aperture n).state ≠ .closed := by
  have := List.find?_some found
  simp only [Bool.and_eq_true, bne_iff_ne] at this
  exact this.1

/-- What an arrival that is Taken has passed. -/
theorem State.judge_taken {s : State} {m : Master} {r : Request} {n : ApertureId}
    (judged : s.judge m r = (.taken, some n)) : Takes s m r n ∧ s.decode r.address = some n ∧
      s.lacksResource m r n = false := by
  unfold State.judge at judged
  split at judged
  · simp at judged
  · rename_i form
    split at judged
    · simp at judged
    · rename_i n' found
      split at judged
      · simp at judged
      · rename_i admitted
        split at judged
        · simp at judged
        · rename_i room
          obtain rfl : n' = n := by simpa using judged
          obtain ⟨active, -, free, -⟩ := State.formCheck_eq_none.1 form
          obtain ⟨-, notDraining, notHalted⟩ := Aperture.admission_eq_none.1 admitted
          have notClosed := State.decode_state found
          have room : s.lacksResource m r n' = false := by simpa using room
          refine ⟨⟨active, free, by cases h : (s.aperture n').state <;> simp_all, fun write => ?_⟩, found, room⟩
          simp only [State.lacksResource, write, Bool.or_eq_false_iff] at room
          simpa using room.1

theorem Takes.congr {s t : State} {m : Master} {r : Request} {n : ApertureId} (takes : Takes s m r n)
    (ports : t.port m = s.port m) (apertures : t.aperture n = s.aperture n) (queues : t.queue m = s.queue m) :
    Takes t m r n :=
  ⟨by rw [ports, takes.active], by rw [ports, takes.free], by rw [apertures, takes.opened],
    by rw [queues]; exact takes.room⟩

/-- An arrival that is Taken for `n`, in the state that its answer leaves. -/
theorem Reach.takeRequest (reach : Reach o s) {m : Master} {r : Request} {n : ApertureId} (takes : Takes s m r n)
    (room : s.lacksResource m r n = false) : Reach o (takeRequest m r n s) := by
  simp only [Machine.takeRequest]
  split
  · exact reach.takeTranslated takes _ _ _
  · rename_i walked
    split
    · rename_i e hit
      exact (reach.move (.touchPage s e (List.mem_of_find?_eq_some hit))).takeTranslated
        (takes.congr (by simp) (by simp) (by simp)) _ _ _
    · rename_i miss
      have resources : (r.kind = .write → (s.queue m).writes.length < Config.writeQueueEntries) ∧
          s.freeSlotNumber.isSome = true := by
        simpa [State.lacksResource, walked, miss] using room
      obtain ⟨k, free⟩ := Option.isSome_iff_exists.1 resources.2
      exact reach.takeMissed takes free _

theorem Reach.reportRefusal (reach : Reach o s) (reason : RefuseReason) (m : Master) (r : Request) :
    Reach o (reportRefusal reason m r s) := by
  cases reason <;> first | exact reach | exact reach.move (.report s _ rfl)

/-- What follows the answer to an arrival. -/
theorem judgeArrival_reach (m : Master) (r : Request) (s : State) :
    ∃ a, Reach (emit (.answer m r.tag a) s) (judgeArrival m r s) := by
  unfold judgeArrival
  rcases judged : s.judge m r with ⟨a, n⟩
  refine ⟨a, ?_⟩
  dsimp only
  split
  · obtain ⟨takes, -, room⟩ := State.judge_taken judged
    exact Reach.takeRequest .refl (takes.congr (by simp) (by simp) (by simp)) room
  · exact Reach.reportRefusal .refl _ m r
  · exact .refl

end

end Sys2Proof.Machine

/-! PROOFS. Every command as a chain of acts of the part and of the host, and resets. -/

namespace Sys2Proof.Machine

/-! ## What an event does besides its moves -/

/-- The record of a read has been answered and has left the list, and the read has retired but for its fence count (R132,
R134). -/
def finishRead (r : ItemRecord) (res : BusResult) (rest : List AccessRecord) (s : State) : State :=
  retire r.aperture (readDone r res { s with inFlight := rest })

/-- The same for a write (R133, R134). -/
def finishWrite (r : ItemRecord) (res : BusResult) (rest : List AccessRecord) (s : State) : State :=
  retire r.aperture (writeDone r res { s with inFlight := rest })

/-- A walker read's record has left the list, and its context's read state is none (R131). -/
def finishWalkRead (c : ContextId) (w : Walk) (rest : List AccessRecord) (s : State) : State :=
  { s.setContext c (some { w with read := .none }) with inFlight := rest }

/-- The fence marks of every item (R145). -/
def markItems (s : State) : State :=
  { s with queues := mapSix IssueQueues.mark s.queues, inFlight := s.inFlight.map AccessRecord.mark }

/-- What the invalidation queue does: it sets a cause, moves its commands and its fence, marks the items, and takes entries out of
the caches. -/
inductive QueueAct : State → State → Prop
  | cause (s : State) (c : Cause) : QueueAct s (setCause c s)
  | fences (s : State) (queue : List InvCommand) (waiting : Bool) (counter : Nat) (token : BitVec 16) :
      QueueAct s { s with invQueue := queue, fenceWaiting := waiting, fenceCounter := counter, fenceToken := token }
  | marks (s : State) : QueueAct s (markItems s)
  | invalidates (s : State) (q : InvCommand) : QueueAct s (executeInv q s)

/-- The chains of what the invalidation queue does. -/
abbrev QueueActs : State → State → Prop := Relation.ReflTransGen QueueAct

/-- What the part does in its own events and in those of the masters, the bus and the clock, besides the moves of its blocks:
the invalidation queue, the memory completions, the grants, the channels. -/
inductive Act : State → State → Prop
  | moves {s t : State} (reach : Reach s t) : Act s t
  | fences (s : State) (queue : List InvCommand) (waiting : Bool) (counter : Nat) (token : BitVec 16) :
      Act s { s with invQueue := queue, fenceWaiting := waiting, fenceCounter := counter, fenceToken := token }
  | marks (s : State) : Act s (markItems s)
  | invalidates (s : State) (q : InvCommand) : Act s (executeInv q s)
  | drops (s : State) (x : AccessRecord) (rest : List AccessRecord) (oldest : s.inFlight = x :: rest)
      (none : x.item = none) (idle : ∀ c n p w, x = .walk c n p → s.context c ≠ some w) : Act s { s with inFlight := rest }
  | walkRead (s : State) (c : ContextId) (n : ApertureId) (p : PhysAddr) (w : Walk) (rest : List AccessRecord)
      (oldest : s.inFlight = .walk c n p :: rest) (walks : s.context c = some w) : Act s (finishWalkRead c w rest s)
  | read (s : State) (r : ItemRecord) (res : BusResult) (rest : List AccessRecord) (oldest : s.inFlight = .read r :: rest) :
      Act s (finishRead r res rest s)
  | write (s : State) (r : ItemRecord) (res : BusResult) (rest : List AccessRecord) (oldest : s.inFlight = .write r :: rest) :
      Act s (finishWrite r res rest s)
  | ends (s : State) (m : Master) : Act s (portResetTest m s)
  | emits (s : State) (x : Output) : Act s (emit x s)
  | accepts (s : State) (m : Master) (c : Completion) (rest : List Completion)
      (offered : (s.port m).completions = c :: rest) :
      Act s (s.setPort m { (s.port m).setTag c.tag none with completions := rest })
  | grantWalk (s : State) (c : ContextId) (w : Walk) (t : Nat) (room : s.inFlight.length < Config.maxInFlight)
      (walks : s.context c = some w) (pending : w.read = .pending t) : Act s (grantWalk c s)
  | grantRead (s : State) (m : Master) (e : ReadEntry) (room : s.inFlight.length < Config.maxInFlight)
      (mem : e ∈ (s.queue m).reads) : Act s (grantRead m e s)
  | grantWrite (s : State) (m : Master) (e : WriteEntry) (room : s.inFlight.length < Config.maxInFlight)
      (eligible : (s.queue m).eligibleWrite = some e) : Act s (grantWrite m e s)

/-- What the host does but for the soft reset, and what becomes of a waiting request; `clearing` says whether the causes can be
cleared, and `recalling` whether a Port Reset can recall its master's work. -/
inductive HostAct (clearing recalling : Bool) : State → State → Prop
  | opens (s : State) (n : ApertureId) : HostAct clearing recalling s (openCommand n s)
  | closes (s : State) (n : ApertureId) : HostAct clearing recalling s (closeCommand n s)
  | halts (s : State) (n : ApertureId) : HostAct clearing recalling s (haltCommand n s)
  | resumes (s : State) (n : ApertureId) : HostAct clearing recalling s (resumeCommand n s)
  | describes (s : State) (n : ApertureId) (w : DescriptorWord) (v : Word) : HostAct clearing recalling s (writeDescriptor n w v s)
  | errs (s : State) (code : ErrorCode) (offset : BitVec 12) : HostAct clearing recalling s (programmingError code offset s)
  | enablesPort (s : State) (m : Master) (enable : Bool) : HostAct clearing recalling s (storeEnable m enable s)
  | sweeps (s : State) (m : Master) (live : (s.port m).state ≠ .resetting) (allowed : recalling = true) :
      HostAct clearing recalling s ((s.sweptApertures m).foldl (fun t n => retire n t) (sweep m s))
  | globalEnable (s : State) (b : Bool) : HostAct clearing recalling s { s with globalEnable := b }
  | clears (s : State) (v : Word) (allowed : clearing = true) : HostAct clearing recalling s (writeCause v s)
  | enables (s : State) (v : Word) : HostAct clearing recalling s (writeCauseEnable v s)
  | timeout (s : State) (v : Word) : HostAct clearing recalling s (writeParkTimeout v s)
  | region (s : State) (i : RegionId) (v : Word) : HostAct clearing recalling s (writeRegion i v s)
  | stages (s : State) (g : Staging) : HostAct clearing recalling s { s with staging := g }
  | pops (s : State) : HostAct clearing recalling s (popRecord s)
  | presents (s : State) (m : Master) (x : Option Request) :
      HostAct clearing recalling s (s.setPort m { s.port m with pendingArrival := x })

/-- The resets. -/
inductive ResetAct : State → State → Prop
  | softReset (s : State) : ResetAct s (softReset s)
  | holds (s : State) : ResetAct s (hold s)
  | releases (s : State) (pass : Bool) : ResetAct s (release pass s)

/-- The chains of acts of the part alone. -/
abbrev Acts : State → State → Prop := Relation.ReflTransGen Act

/-- The chains of acts of the part and the host. -/
abbrev HostRuns (clearing : Bool) : State → State → Prop :=
  Relation.ReflTransGen fun s t => Act s t ∨ HostAct clearing true s t

/-- The chains of acts of the part and the host, and resets. -/
abbrev Runs : State → State → Prop :=
  Relation.ReflTransGen fun s t => (Act s t ∨ HostAct true true s t) ∨ ResetAct s t

theorem Acts.hostRuns {clearing : Bool} {s t : State} (acts : Acts s t) : HostRuns clearing s t := by
  induction acts with
  | refl => exact .refl
  | tail _ act ih => exact ih.tail (.inl act)

theorem HostAct.relax {clearing recalling : Bool} {s t : State} (act : HostAct clearing recalling s t) : HostAct true true s t := by
  cases act with
  | clears v => exact .clears s v rfl
  | sweeps m live => exact .sweeps s m live rfl
  | _ => constructor

theorem HostRuns.runs {clearing : Bool} {s t : State} (runs : HostRuns clearing s t) : Runs s t := by
  induction runs with
  | refl => exact .refl
  | tail _ act ih => exact ih.tail (.inl (act.imp_right HostAct.relax))

theorem Act.acts {s t : State} (act : Act s t) : Acts s t := .single act

theorem QueueAct.act {s t : State} (act : QueueAct s t) : Act s t := by
  cases act with
  | cause c => exact .moves (.single (.cause s c))
  | fences queue waiting counter token => exact .fences s queue waiting counter token
  | marks => exact .marks s
  | invalidates q => exact .invalidates s q

theorem QueueActs.acts {s t : State} (acts : QueueActs s t) : Acts s t := by
  induction acts with
  | refl => exact .refl
  | tail _ act ih => exact ih.tail act.act

theorem QueueAct.acts {s t : State} (act : QueueAct s t) : QueueActs s t := .single act

theorem HostAct.runs {clearing : Bool} {s t : State} (act : HostAct clearing true s t) : HostRuns clearing s t :=
  .single (.inr act)

theorem ResetAct.runs {s t : State} (act : ResetAct s t) : Runs s t := .single (.inr act)

/-- A property that every act keeps holds at the end of a chain. -/
theorem Acts.keep {P : State → Prop} {s t : State} (acts : Acts s t) (holds : P s)
    (keeps : ∀ s t, Act s t → P s → P t) : P t := by
  induction acts with
  | refl => exact holds
  | tail _ act ih => exact keeps _ _ act ih

theorem HostRuns.keep {P : State → Prop} {clearing : Bool} {s t : State} (runs : HostRuns clearing s t) (holds : P s)
    (part : ∀ s t, Act s t → P s → P t) (host : ∀ s t, HostAct clearing true s t → P s → P t) : P t := by
  induction runs with
  | refl => exact holds
  | tail _ act ih => exact act.elim (fun act => part _ _ act ih) fun act => host _ _ act ih

theorem Runs.keep {P : State → Prop} {s t : State} (runs : Runs s t) (holds : P s)
    (part : ∀ s t, Act s t → P s → P t) (host : ∀ s t, HostAct true true s t → P s → P t)
    (reset : ∀ s t, ResetAct s t → P s → P t) : P t := by
  induction runs with
  | refl => exact holds
  | tail _ act ih =>
    obtain (act | act) | act := act
    · exact part _ _ act ih
    · exact host _ _ act ih
    · exact reset _ _ act ih

/-- A property that the invalidation queue keeps in each of its acts. -/
theorem QueueActs.keep {P : State → Prop} {s t : State} (acts : QueueActs s t) (holds : P s)
    (keeps : ∀ s t, QueueAct s t → P s → P t) : P t := by
  induction acts with
  | refl => exact holds
  | tail _ act ih => exact keeps _ _ act ih

/-! ### The invalidation queue -/

theorem judgeInv_acts (q : InvCommand) (s : State) : QueueActs s (judgeInv q s) := by
  unfold judgeInv
  split
  · exact .refl
  · split
    · exact (QueueAct.cause s _).acts
    · exact (QueueAct.invalidates s q).acts

theorem startFence_acts (l : List InvCommand) (s : State) : QueueActs s (startFence { s with invQueue := l }) :=
  (QueueAct.marks s).acts.tail (.fences _ l true s.itemCount s.fenceToken)

theorem completeFence_acts (q : InvCommand) (rest : List InvCommand) (s : State) : QueueActs s (completeFence q rest s) := by
  have left : QueueActs s { s with fenceToken := q.index, invQueue := rest, fenceWaiting := false } :=
    (QueueAct.fences s rest false s.fenceCounter q.index).acts
  unfold completeFence
  dsimp only
  split
  · exact left.tail (.cause _ .fenceDone)
  · exact left

theorem handleHead_acts (l : List InvCommand) (s : State) : QueueActs s (handleHead l s) := by
  have takes (s : State) (l : List InvCommand) : QueueActs s { s with invQueue := l } :=
    (QueueAct.fences s l s.fenceWaiting s.fenceCounter s.fenceToken).acts
  induction l generalizing s with
  | nil => exact takes s []
  | cons q rest ih =>
    unfold handleHead
    dsimp only
    split
    · split
      · exact ((startFence_acts (q :: rest) s).trans (completeFence_acts q rest _)).trans (ih _)
      · exact startFence_acts (q :: rest) s
    · exact ((takes s rest).trans (judgeInv_acts q _)).trans (ih _)

theorem fenceTest_acts (s : State) : QueueActs s (fenceTest s) := by
  unfold fenceTest
  split
  · exact .refl
  · split
    · exact (completeFence_acts _ _ s).trans (handleHead_acts _ _)
    · exact .refl

theorem lowerFence_acts (k : Nat) (s : State) : QueueActs s (lowerFence k s) := by
  unfold lowerFence
  split
  · exact .refl
  · exact (QueueAct.fences s s.invQueue s.fenceWaiting (s.fenceCounter - k) s.fenceToken).acts.trans (fenceTest_acts _)

theorem handleHeadOfKind_acts (k : InvKind) (s : State) : QueueActs s (handleHeadOfKind k s) := by
  unfold handleHeadOfKind
  split
  · exact .refl
  · split
    · exact handleHead_acts _ s
    · exact .refl

theorem pushStaged_runs {clearing : Bool} (s : State) : HostRuns clearing s (pushStaged s) := by
  unfold pushStaged
  split
  · exact (HostAct.errs s _ _).runs
  · split
    · split
      · exact (handleHead_acts _ s).acts.hostRuns
      · exact (Act.fences s _ s.fenceWaiting s.fenceCounter s.fenceToken).acts.hostRuns
    · exact (Act.moves (.single (.cause s _))).acts.hostRuns

/-! ### Memory completions and grants -/

/-- What a memory completion of a walker read does: the record leaves the list, and its walk goes on (R131). -/
theorem walkRecordDone_reach {s : State} {c : ContextId} {n : ApertureId} {p : PhysAddr} (rest : List AccessRecord)
    (res : BusResult) : (s.context c = none ∧ recordDone (.walk c n p) res { s with inFlight := rest } = { s with inFlight := rest }) ∨
      ∃ w, s.context c = some w ∧ Reach (finishWalkRead c w rest s) (recordDone (.walk c n p) res { s with inFlight := rest }) := by
  unfold recordDone walkReadDone
  dsimp only
  split
  · exact .inl ⟨by assumption, rfl⟩
  · rename_i w walks
    refine .inr ⟨w, walks, ?_⟩
    have waits : (finishWalkRead c w rest s).awaits c { w with read := .none } :=
      ⟨(s.context_setContext c c _).trans (if_pos rfl), rfl⟩
    split
    · exact Reach.directoryDone .refl waits res
    · refine Reach.completeWalk .refl (fun v walks => ?_) _
      cases waits.1.symm.trans walks; rfl

theorem recordDone_acts {s : State} {x : AccessRecord} {rest : List AccessRecord} (oldest : s.inFlight = x :: rest)
    (res : BusResult) : Acts s (recordDone x res { s with inFlight := rest }) := by
  cases x with
  | discarded => exact (Act.drops s _ rest oldest rfl (by simp)).acts
  | walk c n p =>
    obtain ⟨idle, same⟩ | ⟨w, walks, reach⟩ := walkRecordDone_reach (s := s) (c := c) (n := n) (p := p) rest res
    · rw [same]
      exact (Act.drops s _ rest oldest rfl (by rintro _ _ _ w ⟨⟩; simp [idle])).acts
    · exact (Act.walkRead s c n p w rest oldest walks).acts.tail (.moves reach)
  | read r => exact (((Act.read s r res rest oldest).acts.trans (lowerFence_acts _ _).acts).tail (.ends _ _))
  | write r => exact (((Act.write s r res rest oldest).acts.trans (lowerFence_acts _ _).acts).tail (.ends _ _))

theorem State.readyTime_eq_some {s : State} {c : ContextId} {t : Nat} :
    s.readyTime c = some t ↔ ∃ w, s.context c = some w ∧ w.read = .pending t := by
  unfold State.readyTime
  cases s.context c with
  | none => simp
  | some w => cases read : w.read <;> simp [read]

/-- The walk context that claims a grant has its read pending (R125, R126). -/
theorem State.walkClaim_eq_some {s : State} {x : Claim} (claim : s.walkClaim = some x) :
    ∃ c w t, x = .walk c ∧ s.context c = some w ∧ w.read = .pending t := by
  unfold State.walkClaim at claim
  cases zero : s.readyTime 0 with
  | none =>
    cases one : s.readyTime 1 with
    | none => simp [zero, one] at claim
    | some u =>
      obtain ⟨w, walks, read⟩ := State.readyTime_eq_some.1 one
      exact ⟨1, w, u, by simpa [zero, one] using claim.symm, walks, read⟩
  | some t =>
    obtain ⟨w, walks, read⟩ := State.readyTime_eq_some.1 zero
    cases one : s.readyTime 1 with
    | none => exact ⟨0, w, t, by simpa [zero, one] using claim.symm, walks, read⟩
    | some u =>
      obtain ⟨w', walks', read'⟩ := State.readyTime_eq_some.1 one
      by_cases first : t ≤ u
      · exact ⟨0, w, t, by simpa [zero, one, first] using claim.symm, walks, read⟩
      · exact ⟨1, w', u, by simpa [zero, one, first] using claim.symm, walks', read'⟩

/-- What a master offers is its earliest eligible read or its eligible write (R116). -/
theorem State.candidate_eq_some {s : State} {m : Master} {x : Claim} (offer : s.candidate m = some x) :
    (∃ e, x = .read m e ∧ (s.queue m).eligibleRead = some e) ∨
      ∃ e, x = .write m e ∧ (s.queue m).eligibleWrite = some e := by
  unfold State.candidate at offer
  split at offer
  · cases offer
  · cases offer; exact .inl ⟨_, rfl, by assumption⟩
  · cases offer; exact .inr ⟨_, rfl, by assumption⟩
  · split at offer <;> cases offer
    · exact .inl ⟨_, rfl, by assumption⟩
    · exact .inr ⟨_, rfl, by assumption⟩

theorem IssueQueues.mem_of_eligibleRead {q : IssueQueues} {e : ReadEntry} (eligible : q.eligibleRead = some e) :
    e ∈ q.reads ∧ q.holds e = false := by
  simpa using (earliestRead_spec _ e eligible).1

/-- What a grant chooses: a pending walker read, or an eligible item of a master (R126, R127). -/
theorem State.chosen_eq_some {s : State} {x : Claim} (chosen : s.chosen = some x) :
    (∃ c w t, x = .walk c ∧ s.context c = some w ∧ w.read = .pending t) ∨
      (∃ m e, x = .read m e ∧ (s.queue m).eligibleRead = some e) ∨
      ∃ m e, x = .write m e ∧ (s.queue m).eligibleWrite = some e := by
  unfold State.chosen at chosen
  split at chosen
  · cases chosen
    exact .inl (State.walkClaim_eq_some (by assumption))
  · obtain ⟨m, -, offer⟩ := List.exists_of_findSome?_eq_some chosen
    obtain ⟨e, claim, eligible⟩ | ⟨e, claim, eligible⟩ := State.candidate_eq_some offer
    · exact .inr (.inl ⟨m, e, claim, eligible⟩)
    · exact .inr (.inr ⟨m, e, claim, eligible⟩)

theorem takeGrant_acts (s : State) : Acts s (takeGrant s) := by
  unfold takeGrant
  split
  · rename_i room
    cases chosen : s.chosen with
    | none => exact .refl
    | some x =>
      obtain ⟨c, w, t, rfl, walks, pending⟩ | ⟨m, e, rfl, eligible⟩ | ⟨m, e, rfl, eligible⟩ := State.chosen_eq_some chosen
      · exact (Act.grantWalk s c w t room walks pending).acts
      · exact (Act.grantRead s m e room (IssueQueues.mem_of_eligibleRead eligible).1).acts
      · exact (Act.grantWrite s m e room eligible).acts
  · exact .refl

theorem expireSlot_reach {s : State} {k : ParkSlot} (mem : k ∈ s.park) : Reach s (expireSlot s k) :=
  settles_expireSlot.reach s k .refl (fun _ => mem) fun law resetting => (law _ resetting).1 k mem rfl

/-! ### The commands -/

theorem whenReleased_next {s t : State} {f : State → State} (done : whenReleased s f = .next t) :
    (s.resetLow = true ∧ t = s) ∨ (s.resetLow = false ∧ t = f s) := by
  unfold whenReleased at done
  cases low : s.resetLow <;> simp_all

/-- A command that has its effect only with RESET# high is a chain where its effect is one. -/
theorem Acts.of_whenReleased {s t : State} {f : State → State} (done : whenReleased s f = .next t)
    (acts : Acts s (f s)) : Acts s t := by
  obtain ⟨-, rfl⟩ | ⟨-, rfl⟩ := whenReleased_next done
  · exact .refl
  · exact acts

theorem HostRuns.of_whenReleased {clearing : Bool} {s t : State} {f : State → State} (done : whenReleased s f = .next t)
    (runs : HostRuns clearing s (f s)) : HostRuns clearing s t := by
  obtain ⟨-, rfl⟩ | ⟨-, rfl⟩ := whenReleased_next done
  · exact .refl
  · exact runs

theorem judgeArrival_acts (m : Master) (r : Request) (s : State) : Acts s (judgeArrival m r s) := by
  obtain ⟨a, reach⟩ := judgeArrival_reach m r s
  exact (Act.emits s _).acts.tail (.moves reach)

theorem execMemoryCompletion_acts {s t : State} {r : BusResult} (done : execMemoryCompletion r s = .next t) : Acts s t := by
  unfold execMemoryCompletion at done
  split at done
  · cases done; exact .refl
  · split at done
    · cases done
    · cases done; exact recordDone_acts (by assumption) r

theorem resetPort_runs {clearing : Bool} (m : Master) (s : State) : HostRuns clearing s (resetPort m s) := by
  unfold resetPort
  split
  · exact .refl
  · rename_i live
    have swept : HostRuns clearing s ((s.sweptApertures m).foldl (fun t n => retire n t) (sweep m (indicate m s))) :=
      (Act.emits s (.indication m)).acts.hostRuns.tail (.inr (.sweeps (indicate m s) m (by simpa using live) rfl))
    exact swept.trans (Acts.hostRuns ((lowerFence_acts _ _).acts.tail (.ends _ m)))

theorem writePortControl_runs {clearing : Bool} (m : Master) (v : Word) (s : State) :
    HostRuns clearing s (writePortControl m v s) := by
  unfold writePortControl
  split
  · exact (HostAct.enablesPort s _ _).runs.trans (resetPort_runs _ _)
  · exact (HostAct.enablesPort s _ _).runs

theorem writeCommand_runs {clearing : Bool} (n : ApertureId) (v : Word) (s : State) :
    HostRuns clearing s (writeCommand n v s) := by
  unfold writeCommand
  split; · exact (HostAct.opens s n).runs
  split; · exact (HostAct.closes s n).runs
  split; · exact (HostAct.halts s n).runs
  split; · exact (HostAct.resumes s n).runs
  exact (HostAct.errs s _ _).runs

/-- A full write that is not a soft reset is a chain of acts of the part and the host. -/
theorem fullWrite_runs (w : WordIndex) (v : Word) (s : State)
    (ordinary : wordAt w = .globalControl → v.getLsbD 1 = false) : HostRuns true s (fullWrite w v s) := by
  unfold fullWrite
  split
  · rename_i control
    simp only [writeGlobalControl, ordinary control]
    exact (HostAct.globalEnable s _).runs
  · exact (HostAct.clears s v rfl).runs
  · exact (HostAct.enables s v).runs
  · exact (HostAct.timeout s v).runs
  · exact (HostAct.region s _ v).runs
  · exact writePortControl_runs _ v s
  · exact (HostAct.stages s _).runs
  · exact pushStaged_runs s
  · exact (HostAct.pops s).runs
  · exact (HostAct.describes s _ _ v).runs
  · exact writeCommand_runs _ v s
  all_goals exact .refl

/-- A full write with SoftReset 1 to the global control word is a soft reset. -/
theorem fullWrite_of_softReset {w : WordIndex} {v : Word} (control : wordAt w = .globalControl)
    (bit : v.getLsbD 1 = true) (s : State) : fullWrite w v s = softReset s := by
  simp [fullWrite, control, writeGlobalControl, bit]

theorem wordAt_eq_globalControl {w : WordIndex} : wordAt w = .globalControl ↔ w = 2 := by
  constructor
  · revert w; decide
  · rintro rfl; rfl

theorem judgeWaiting_runs (m : Master) (s : State) : HostRuns true s (judgeWaiting s m) := by
  unfold judgeWaiting
  split
  · exact .refl
  · exact (HostAct.presents s m none).runs.trans (judgeArrival_acts m _ _).hostRuns

theorem foldl_judgeWaiting_runs (order : List Master) (s : State) : HostRuns true s (order.foldl judgeWaiting s) := by
  induction order generalizing s with
  | nil => exact .refl
  | cons m order ih => exact (judgeWaiting_runs m s).trans (ih _)

/-- The part's own events, and those of the masters, the bus and the clock, are chains of acts of the part. -/
theorem exec_acts {c : Instr} {s t : State} (own : isPartEvent c = true)
    (high : ∀ m r, c = .arrival m r → s.resetLow = false) (done : exec c s = .next t) : Acts s t := by
  cases c with
  | arrival m r =>
    simp only [exec, execArrival, high m r rfl] at done
    split at done
    · cases done
    · cases done; exact judgeArrival_acts m r s
  | acceptance m =>
    dsimp only [exec, execAcceptance] at done
    refine .of_whenReleased done ?_
    split
    · exact .refl
    · exact (Act.accepts s m _ _ (by assumption)).acts.tail (.emits _ _)
  | grant => exact .of_whenReleased done (takeGrant_acts s)
  | memoryCompletion r => exact execMemoryCompletion_acts done
  | walkCompletion c r =>
    dsimp only [exec, execWalkCompletion] at done
    refine .of_whenReleased done ?_
    split
    · exact .refl
    · rename_i w walks
      split
      · refine (Act.moves (Reach.completeWalk .refl (fun v busy => ?_) r)).acts
        cases walks.symm.trans busy; assumption
      · exact .refl
  | takeover c =>
    refine .of_whenReleased done ?_
    split
    · exact (Act.moves (Reach.takeover _ .refl (by simp_all))).acts
    · exact .refl
  | tick => exact .of_whenReleased done (Act.moves (Reach.takeTick .refl)).acts
  | expiry k =>
    dsimp only [exec, execExpiry] at done
    refine .of_whenReleased done ?_
    split
    · rename_i x found
      exact (Act.moves (expireSlot_reach (List.mem_of_find?_eq_some found))).acts
    · exact .refl
  | endOfDrain n => exact .of_whenReleased done (Act.moves (.single (.drain s n))).acts
  | endOfPortReset m => exact .of_whenReleased done (Act.ends s m).acts
  | invalidatePage | invalidateRange | invalidateDirectory | invalidateAperture | fence =>
    exact .of_whenReleased done (handleHeadOfKind_acts _ s).acts
  | fenceCompletion => exact .of_whenReleased done (fenceTest_acts s).acts
  | _ => cases own

/-- Every command that is no reset is a chain of acts of the part and the host. -/
theorem exec_hostRuns {clearing : Bool} {c : Instr} {s t : State} (ordinary : resetsPart c = false)
    (clears : clearsCauses c = true → clearing = true) (done : exec c s = .next t) : HostRuns clearing s t := by
  cases c with
  | arrival m r =>
    simp only [exec, execArrival] at done
    split at done
    · cases done
    split at done
    · split at done
      · cases done
      · cases done; exact (HostAct.presents s m (some r)).runs
    · cases done; exact (judgeArrival_acts m r s).hostRuns
  | openAperture n => exact .of_whenReleased done (HostAct.opens s n).runs
  | closeAperture n => exact .of_whenReleased done (HostAct.closes s n).runs
  | haltAperture n => exact .of_whenReleased done (HostAct.halts s n).runs
  | resumeAperture n => exact .of_whenReleased done (HostAct.resumes s n).runs
  | badCommand n v => exact .of_whenReleased done (writeCommand_runs n v s)
  | descriptorWrite n w v => exact .of_whenReleased done (HostAct.describes s n w v).runs
  | portEnableWrite m e => exact .of_whenReleased done (HostAct.enablesPort s m e).runs
  | portReset m e =>
    dsimp only [exec, execPortReset] at done
    exact .of_whenReleased done ((HostAct.enablesPort s m e).runs.trans (resetPort_runs m _))
  | globalEnable e =>
    dsimp only [exec, execGlobalEnable] at done
    exact .of_whenReleased done (HostAct.globalEnable s e).runs
  | causeClear v => exact .of_whenReleased done (HostAct.clears s v (clears rfl)).runs
  | causeEnableWrite v => exact .of_whenReleased done (HostAct.enables s v).runs
  | parkTimeoutWrite v => exact .of_whenReleased done (HostAct.timeout s v).runs
  | regionWrite i v => exact .of_whenReleased done (HostAct.region s i v).runs
  | stagingWrite w v =>
    dsimp only [exec, execStagingWrite] at done
    exact .of_whenReleased done (HostAct.stages s _).runs
  | push v => exact .of_whenReleased done (pushStaged_runs s)
  | pop v => exact .of_whenReleased done (HostAct.pops s).runs
  | narrowWrite w lanes v =>
    obtain rfl := clears rfl
    simp only [exec, execNarrowWrite] at done
    split at done
    · cases done
    · refine .of_whenReleased done ?_
      split
      · refine fullWrite_runs w v s fun control => ?_
        simp_all [resetsPart, wordAt_eq_globalControl]
      · exact (HostAct.errs s _ _).runs
  | hostWrite w v =>
    obtain rfl := clears rfl
    refine .of_whenReleased done (fullWrite_runs w v s fun control => ?_)
    simp_all [resetsPart, wordAt_eq_globalControl]
  | softReset | pinReset | resetRelease => cases ordinary
  | memoryCompletion r => exact (execMemoryCompletion_acts done).hostRuns
  | _ => exact (exec_acts rfl (by simp) done).hostRuns

/-- Every command is a chain of acts of the part and the host, and resets. -/
theorem exec_runs {c : Instr} {s t : State} (done : exec c s = .next t) : Runs s t := by
  have soft {w : WordIndex} {v : Word} (control : w = 2) (bit : v.getLsbD 1 = true)
      (done : whenReleased s (fullWrite w v) = .next t) : Runs s t := by
    obtain ⟨-, rfl⟩ | ⟨-, rfl⟩ := whenReleased_next done
    · exact .refl
    · rw [fullWrite_of_softReset (wordAt_eq_globalControl.2 control) bit]; exact (ResetAct.softReset s).runs
  cases ordinary : resetsPart c with
  | false => exact (exec_hostRuns (clearing := true) ordinary (fun _ => rfl) done).runs
  | true =>
    cases c with
    | softReset =>
      obtain ⟨-, rfl⟩ | ⟨-, rfl⟩ := whenReleased_next done
      · exact .refl
      · exact (ResetAct.softReset s).runs
    | pinReset => cases done; exact (ResetAct.holds s).runs
    | resetRelease pass order =>
      simp only [exec, execResetRelease] at done
      cases done
      split
      · exact (ResetAct.releases s pass).runs.trans (foldl_judgeWaiting_runs _ _).runs
      · exact .refl
    | hostWrite w v =>
      simp only [resetsPart, Bool.and_eq_true, decide_eq_true_eq] at ordinary
      exact soft ordinary.1 ordinary.2 done
    | narrowWrite w lanes v =>
      simp only [resetsPart, Bool.and_eq_true, decide_eq_true_eq] at ordinary
      obtain ⟨⟨rfl, control⟩, bit⟩ := ordinary
      exact soft control bit (by simpa [exec, execNarrowWrite] using done)
    | _ => cases ordinary

/-- A property that the acts and the resets keep is kept by every command. -/
theorem exec_keeps {P : State → Prop} {c : Instr} {s t : State} (done : exec c s = .next t) (holds : P s)
    (part : ∀ s t, Act s t → P s → P t) (host : ∀ s t, HostAct true true s t → P s → P t)
    (reset : ∀ s t, ResetAct s t → P s → P t) : P t :=
  (exec_runs done).keep holds part host reset

/-- One step is a command on the queue's rest, so that a property which does not look at the queue of commands and which the
acts and the resets keep is kept by every step. -/
theorem step_keeps {P : State → Prop} {s t : State} (done : step s = .next t) (holds : P s)
    (blind : ∀ s l, P s → P { s with pending := l }) (part : ∀ s t, Act s t → P s → P t)
    (host : ∀ s t, HostAct true true s t → P s → P t) (reset : ∀ s t, ResetAct s t → P s → P t) : P t := by
  unfold step at done
  split at done
  · cases done; exact holds
  · exact exec_keeps done (blind s _ holds) part host reset

end Sys2Proof.Machine

/-! PROOFS. What the acts of the part leave to the host, what they make of the causes, and the answers that go out: the
statements that follow from the moves' frames alone. -/

namespace Sys2Proof.Machine

/-! ## Apertures and causes after the shared operations -/

theorem haltOnFault_aperture (n : ApertureId) (s : State) (j : ApertureId) : (haltOnFault n s).aperture j =
    if j = n ∧ (s.aperture n).haltOnFault = true ∧ (s.aperture n).state = .opened then
      { s.aperture n with state := .halted }
    else s.aperture j := by
  unfold haltOnFault
  by_cases halts : (s.aperture n).haltOnFault = true ∧ (s.aperture n).state = .opened
  · simp [halts]
  · by_cases h : (s.aperture n).haltOnFault = true <;> simp_all

theorem drainTest_aperture (n : ApertureId) (s : State) (j : ApertureId) : (drainTest n s).aperture j =
    if j = n ∧ (s.aperture n).state = .draining ∧ s.drained n = true then { s.aperture n with state := .closed }
    else s.aperture j := by
  unfold drainTest
  by_cases ends : (s.aperture n).state = .draining ∧ s.drained n = true
  · simp [ends, closeNow_aperture]
  · by_cases h : (s.aperture n).state = .draining <;> simp_all

@[simp] theorem haltOnFault_config (n : ApertureId) (s : State) (j : ApertureId) :
    ((haltOnFault n s).aperture j).config = (s.aperture j).config := by
  rw [haltOnFault_aperture]
  split
  · rename_i h; rw [h.1]; rfl
  · rfl

@[simp] theorem closeNow_config (n : ApertureId) (s : State) (j : ApertureId) :
    ((closeNow n s).aperture j).config = (s.aperture j).config := by
  rw [closeNow_aperture]
  split
  · rename_i h; rw [h]; rfl
  · rfl

@[simp] theorem drainTest_config (n : ApertureId) (s : State) (j : ApertureId) :
    ((drainTest n s).aperture j).config = (s.aperture j).config := by
  unfold drainTest
  split <;> simp

@[simp] theorem lowerCount_config (n : ApertureId) (s : State) (j : ApertureId) :
    ((lowerCount n s).aperture j).config = (s.aperture j).config := by
  rw [lowerCount_aperture]
  split
  · rename_i h; rw [h]; rfl
  · rfl

@[simp] theorem retire_config (n : ApertureId) (s : State) (j : ApertureId) :
    ((retire n s).aperture j).config = (s.aperture j).config := by
  simp [retire]

@[simp] theorem admitRequest_config (m : Master) (r : Request) (n : ApertureId) (s : State) (j : ApertureId) :
    ((admitRequest m r n s).aperture j).config = (s.aperture j).config := by
  rw [admitRequest_aperture]
  split
  · rename_i h; rw [h]; rfl
  · rfl

/-- The causes that are set in `s` are set in `t` as well. -/
def CausesGrow (s t : State) : Prop := ∃ v, t.causes = s.causes ||| v

theorem CausesGrow.of_eq {s t : State} (same : t.causes = s.causes) : CausesGrow s t := ⟨0, by simp [same]⟩

theorem CausesGrow.trans {s t u : State} (h : CausesGrow s t) (h' : CausesGrow t u) : CausesGrow s u := by
  obtain ⟨v, hv⟩ := h
  obtain ⟨w, hw⟩ := h'
  exact ⟨v ||| w, by rw [hw, hv, BitVec.or_assoc]⟩

theorem CausesGrow.keeps {s t : State} (grow : CausesGrow s t) {i : Nat} (set : s.causes.getLsbD i = true) :
    t.causes.getLsbD i = true := by
  obtain ⟨v, hv⟩ := grow
  simp [hv, set]

theorem setCause_grow (c : Cause) (s : State) : CausesGrow s (setCause c s) := ⟨c.mask, rfl⟩

theorem report_grow (r : FaultRecord) (s : State) : CausesGrow s (report r s) := by
  unfold report
  split
  · exact setCause_grow _ _
  · split <;> exact setCause_grow _ _

theorem haltOnFault_grow (n : ApertureId) (s : State) : CausesGrow s (haltOnFault n s) := by
  unfold haltOnFault
  dsimp only
  split
  · exact setCause_grow _ _
  · exact .of_eq rfl

theorem closeNow_grow (n : ApertureId) (s : State) : CausesGrow s (closeNow n s) := ⟨Cause.apertureClosed.mask, rfl⟩

theorem drainTest_grow (n : ApertureId) (s : State) : CausesGrow s (drainTest n s) := by
  unfold drainTest
  split
  · exact closeNow_grow n s
  · exact .of_eq rfl

theorem retire_grow (n : ApertureId) (s : State) : CausesGrow s (retire n s) := drainTest_grow n (lowerCount n s)

theorem fillPage_grow (n : ApertureId) (p : Nat) (f : Frame) (a : MapAccess) (k : Bool) (s : State) :
    CausesGrow s (fillPage n p f a k s) := by
  unfold fillPage
  dsimp only
  split
  · split
    · exact setCause_grow .pinLimit _
    · exact .of_eq rfl
  · exact .of_eq rfl

theorem reportMemory_grow (k : FaultKind) (a : AccessKind) (r : ItemRecord) (s : State) :
    CausesGrow s (reportMemory k a r s) := report_grow _ s

theorem readDone_grow (r : ItemRecord) (x : BusResult) (s : State) : CausesGrow s (readDone r x s) := by
  cases x with
  | okay beats => exact .of_eq (by simp [readDone])
  | error => exact (CausesGrow.of_eq (by simp)).trans (reportMemory_grow _ _ r _)

theorem writeDone_grow (r : ItemRecord) (x : BusResult) (s : State) : CausesGrow s (writeDone r x s) := by
  unfold writeDone
  dsimp only
  split
  · exact .of_eq rfl
  · split
    · split
      · exact .of_eq (by simp)
      · exact .of_eq rfl
      · exact (CausesGrow.of_eq (by simp)).trans (reportMemory_grow _ _ r _)
      · exact (CausesGrow.of_eq (by simp)).trans (reportMemory_grow _ _ r _)
    · exact .of_eq rfl

theorem leaveSlot_grow (k : ParkSlot) (x : CompletionStatus) (s : State) : CausesGrow s (leaveSlot k x s) :=
  (CausesGrow.of_eq (by simp)).trans (retire_grow _ _)

theorem portResetTest_grow (m : Master) (s : State) : CausesGrow s (portResetTest m s) := by
  unfold portResetTest
  split
  · exact ⟨Cause.portResetDone.mask, rfl⟩
  · exact .of_eq rfl

theorem foldl_retire_grow (l : List ApertureId) (s : State) : CausesGrow s (l.foldl (fun t n => retire n t) s) := by
  induction l generalizing s with
  | nil => exact .of_eq rfl
  | cons n l ih => exact (retire_grow n s).trans (ih _)

/-- No move clears a cause. -/
theorem Move.grow {o s t : State} (move : Move o s t) : CausesGrow s t := by
  cases move with
  | cause c => exact setCause_grow c s
  | report r => exact report_grow r s
  | halt n => exact haltOnFault_grow n s
  | drain n => exact drainTest_grow n s
  | fillPage n p f a k => exact fillPage_grow n p f a k s
  | idle c w => exact (CausesGrow.of_eq (by simp)).trans (drainTest_grow _ _)
  | leave k x => exact leaveSlot_grow k x s
  | takeFault m r n k =>
    exact (CausesGrow.of_eq (by simp)).trans ((haltOnFault_grow n _).trans (retire_grow n _))
  | draw | tick => exact .of_eq rfl
  | _ => exact .of_eq (by simp)

/-- No act of the part clears a cause. -/
theorem Act.grow {s t : State} (act : Act s t) : CausesGrow s t := by
  cases act with
  | moves reach => exact reach.keep (P := CausesGrow s) (.of_eq rfl) fun _ _ move grow => grow.trans move.grow
  | read r x rest =>
    exact (CausesGrow.of_eq rfl).trans ((readDone_grow r x { s with inFlight := rest }).trans (retire_grow _ _))
  | write r x rest =>
    exact (CausesGrow.of_eq rfl).trans ((writeDone_grow r x { s with inFlight := rest }).trans (retire_grow _ _))
  | ends m => exact portResetTest_grow m s
  | grantWalk c w t room walks => exact .of_eq (by simp [Machine.grantWalk, walks])
  | grantRead | grantWrite => exact .of_eq (by simp [Machine.grantRead, Machine.grantWrite])
  | fences | marks | drops | walkRead => exact .of_eq rfl
  | _ => exact .of_eq (by simp)

/-! ## What the moves and the acts leave -/

@[simp] theorem State.accessors_inFlight (s : State) (l : List AccessRecord) :
    (∀ j, ({ s with inFlight := l } : State).aperture j = s.aperture j)
      ∧ (∀ j, ({ s with inFlight := l } : State).port j = s.port j)
      ∧ (∀ j, ({ s with inFlight := l } : State).queue j = s.queue j)
      ∧ (∀ j, ({ s with inFlight := l } : State).context j = s.context j) :=
  ⟨fun _ => rfl, fun _ => rfl, fun _ => rfl, fun _ => rfl⟩

@[simp] theorem grantRead_accessors (m : Master) (e : ReadEntry) (s : State) :
    (∀ j, (grantRead m e s).aperture j = s.aperture j) ∧ (∀ j, (grantRead m e s).port j = s.port j)
      ∧ (∀ j, (grantRead m e s).context j = s.context j) :=
  ⟨fun _ => rfl, fun _ => rfl, fun _ => rfl⟩

@[simp] theorem grantWrite_accessors (m : Master) (e : WriteEntry) (s : State) :
    (∀ j, (grantWrite m e s).aperture j = s.aperture j) ∧ (∀ j, (grantWrite m e s).port j = s.port j)
      ∧ (∀ j, (grantWrite m e s).context j = s.context j) :=
  ⟨fun _ => rfl, fun _ => rfl, fun _ => rfl⟩

/-- The fields that no move of an event writes. -/
structure Untouched (s t : State) : Prop where
  resetLow : t.resetLow = s.resetLow
  passLatched : t.passLatched = s.passLatched
  regions : t.regions = s.regions
  staging : t.staging = s.staging
  enables : t.enables = s.enables
  globalEnable : t.globalEnable = s.globalEnable
  parkTimeout : t.parkTimeout = s.parkTimeout
  progError : t.progError = s.progError
  pending : t.pending = s.pending
  config : ∀ n, (t.aperture n).config = (s.aperture n).config

theorem Untouched.refl (s : State) : Untouched s s := ⟨rfl, rfl, rfl, rfl, rfl, rfl, rfl, rfl, rfl, fun _ => rfl⟩

theorem Untouched.trans {s t u : State} (h : Untouched s t) (h' : Untouched t u) : Untouched s u where
  resetLow := h'.resetLow.trans h.resetLow
  passLatched := h'.passLatched.trans h.passLatched
  regions := h'.regions.trans h.regions
  staging := h'.staging.trans h.staging
  enables := h'.enables.trans h.enables
  globalEnable := h'.globalEnable.trans h.globalEnable
  parkTimeout := h'.parkTimeout.trans h.parkTimeout
  progError := h'.progError.trans h.progError
  pending := h'.pending.trans h.pending
  config n := (h'.config n).trans (h.config n)

theorem Move.untouched {o s t : State} (move : Move o s t) : Untouched s t := by
  cases move with
  | draw | tick => exact ⟨rfl, rfl, rfl, rfl, rfl, rfl, rfl, rfl, rfl, fun _ => rfl⟩
  | _ => constructor <;> simp [leaveSlot, -admitRequest_aperture]

theorem Act.untouched {s t : State} (act : Act s t) : Untouched s t := by
  cases act with
  | moves reach => exact reach.keep (P := Untouched s) (.refl s) fun _ _ move h => h.trans move.untouched
  | grantWalk c w t room walks => constructor <;> simp [Machine.grantWalk, walks]
  | read | write => constructor <;> simp [finishRead, finishWrite]
  | fences | marks | drops | walkRead =>
    exact ⟨rfl, rfl, rfl, rfl, rfl, rfl, rfl, rfl, rfl, fun _ => rfl⟩
  | grantRead | grantWrite => exact ⟨rfl, rfl, rfl, rfl, rfl, rfl, rfl, rfl, rfl, fun _ => rfl⟩
  | _ => constructor <;> simp

end Sys2Proof.Machine

/-! PROOFS. The host's commands: what each case of them writes, the queue of commands, the causes and the configuration
(sections 1.4, 1.6, 9.4, 10.2). -/

namespace Sys2Proof.Machine

/-! ## Commands of the host -/

/-- Slots that are settled one after another: each is still parked at its turn, since each of the ones before took out its own
number alone. -/
theorem foldl_slots_keeps {P : State → Prop} {f : State → ParkSlot → State}
    (park : ∀ u k, (f u k).park = u.park.filter (·.num != k.num)) {own : ParkSlot → Prop} (law : Prop)
    (keeps : ∀ u k, P u → own k → (law → k ∈ u.park) → P (f u k)) (l : List ParkSlot) (owns : ∀ k ∈ l, own k)
    (apart : law → l.Pairwise fun a b => a.num ≠ b.num) (s : State) (mem : law → ∀ k ∈ l, k ∈ s.park) (holds : P s) :
    P (l.foldl f s) := by
  induction l generalizing s with
  | nil => exact holds
  | cons k l ih =>
    refine ih (fun j hj => owns j (by simp [hj])) (fun h => (List.pairwise_cons.1 (apart h)).2) _ (fun h j hj => ?_)
      (keeps s k holds (owns k (by simp)) fun h => mem h k (by simp))
    rw [park, List.mem_filter]
    exact ⟨mem h j (by simp [hj]), by simpa using ((List.pairwise_cons.1 (apart h)).1 j hj).symm⟩

@[simp] theorem abortSlot_park (k : ParkSlot) (s : State) : (abortSlot s k).park = s.park.filter (·.num != k.num) := by
  simp [abortSlot]

/-- A Close, case by case: refused, at once, or with the aborts one after another and the drain tested at their end. -/
theorem closeCommand_keeps {P : State → Prop} {n : ApertureId} {s : State} (refused : P (refuseCommand n s))
    (now : (s.aperture n).state = .opened ∨ (s.aperture n).state = .halted →
      (setResult n .closed s).drained n = true → P (closeNow n (setResult n .closed s)))
    (begun : (s.aperture n).state = .opened ∨ (s.aperture n).state = .halted →
      P (s.setAperture n { s.aperture n with state := .draining, lastResult := .closed }))
    (aborts : ∀ u k, P u → k.aperture = n → (ParkLaw s → k ∈ u.park) → P (abortSlot u k))
    (ends : ∀ u, P u → P (drainTest n u)) : P (closeCommand n s) := by
  simp only [closeCommand]
  split
  · rename_i live
    replace live : (s.aperture n).state = .opened ∨ (s.aperture n).state = .halted := by simpa using live
    split
    · exact now live (by assumption)
    · have same : (setResult n .closed s).setAperture n { (setResult n .closed s).aperture n with state := .draining } =
          s.setAperture n { s.aperture n with state := .draining, lastResult := .closed } := by
        simp [setResult, State.setAperture, State.aperture]
      rw [same]
      refine ends _ (foldl_slots_keeps (own := fun k => k.aperture = n) (fun u k => abortSlot_park k u) (ParkLaw s) aborts _
        (fun k hk => ?_) (fun law => List.Pairwise.sublist List.filter_sublist law) _ (fun _ k hk => ?_) (begun live))
      · simpa using (List.mem_filter.1 hk).2
      · exact (List.mem_filter.1 hk).1
  · exact refused

theorem openCommand_cases (n : ApertureId) (s : State) :
    ((s.aperture n).state = .closed ∧ s.openCheck n = .opened ∧
      openCommand n s = s.setAperture n { s.aperture n with state := .opened, lastResult := .opened }) ∨
    ((s.aperture n).state = .closed ∧ s.openCheck n ≠ .opened ∧
      openCommand n s = setCause .programmingError (setResult n (s.openCheck n) s)) ∨
    ((s.aperture n).state ≠ .closed ∧ openCommand n s = refuseCommand n s) := by
  simp only [openCommand]
  by_cases closed : (s.aperture n).state = .closed
  · by_cases passes : s.openCheck n = .opened
    · simp [closed, passes]
    · simp [closed, passes]
  · simp [closed]

theorem haltCommand_cases (n : ApertureId) (s : State) :
    ((s.aperture n).state = .opened ∧ haltCommand n s =
      setCause .apertureHalted (s.setAperture n { s.aperture n with state := .halted, lastResult := .halted })) ∨
    ((s.aperture n).state ≠ .opened ∧ haltCommand n s = refuseCommand n s) := by
  by_cases h : (s.aperture n).state = .opened <;> simp [haltCommand, h]

theorem resumeCommand_cases (n : ApertureId) (s : State) :
    ((s.aperture n).state = .halted ∧
      resumeCommand n s = s.setAperture n { s.aperture n with state := .opened, lastResult := .resumed }) ∨
    ((s.aperture n).state ≠ .halted ∧ resumeCommand n s = refuseCommand n s) := by
  by_cases h : (s.aperture n).state = .halted <;> simp [resumeCommand, h]

@[simp] theorem setResult_aperture (n : ApertureId) (r : LastResult) (s : State) (j : ApertureId) :
    (setResult n r s).aperture j = if j = n then { s.aperture n with lastResult := r } else s.aperture j := by
  simp [setResult]

@[simp] theorem refuseCommand_aperture (n : ApertureId) (s : State) (j : ApertureId) :
    (refuseCommand n s).aperture j = if j = n then { s.aperture n with lastResult := .badState } else s.aperture j := by
  simp [refuseCommand]

theorem foldl_retire_keeps {P : State → Prop} (keeps : ∀ u n, P u → P (retire n u)) (l : List ApertureId) (s : State)
    (holds : P s) : P (l.foldl (fun t n => retire n t) s) := by
  induction l generalizing s with
  | nil => exact holds
  | cons n l ih => exact ih _ (keeps s n holds)

@[simp] theorem indicateAll_frame (s : State) :
    (indicateAll s).pending = s.pending ∧ (indicateAll s).resetLow = s.resetLow ∧
      (indicateAll s).passLatched = s.passLatched ∧ (indicateAll s).apertures = s.apertures ∧
      (indicateAll s).ports = s.ports ∧ (indicateAll s).queues = s.queues ∧ (indicateAll s).pageCache = s.pageCache ∧
      (indicateAll s).dirCache = s.dirCache ∧ (indicateAll s).regions = s.regions ∧
      (indicateAll s).contexts = s.contexts ∧ (indicateAll s).readySeq = s.readySeq ∧ (indicateAll s).park = s.park ∧
      (indicateAll s).inFlight = s.inFlight ∧ (indicateAll s).invQueue = s.invQueue ∧
      (indicateAll s).fenceWaiting = s.fenceWaiting ∧ (indicateAll s).fenceCounter = s.fenceCounter ∧
      (indicateAll s).log = s.log ∧ (indicateAll s).causes = s.causes ∧ (indicateAll s).overflow = s.overflow := by
  simp [indicateAll, allMasters]

/-! ## The queue of commands and the stops -/

theorem HostAct.keeps_pending {b b' : Bool} {s t : State} (act : HostAct b b' s t) : t.pending = s.pending := by
  cases act with
  | opens n => obtain ⟨-, -, h⟩ | ⟨-, -, h⟩ | ⟨-, h⟩ := openCommand_cases n s <;> simp [h]
  | closes n =>
    exact closeCommand_keeps (P := fun u => u.pending = s.pending) (by simp) (by simp) (by simp) (by simp +contextual)
      (by simp)
  | halts n => obtain ⟨-, h⟩ | ⟨-, h⟩ := haltCommand_cases n s <;> simp [h]
  | resumes n => obtain ⟨-, h⟩ | ⟨-, h⟩ := resumeCommand_cases n s <;> simp [h]
  | describes n w v => unfold writeDescriptor; dsimp only; split <;> simp
  | sweeps m => exact foldl_retire_keeps (P := fun u => u.pending = s.pending) (by simp) _ _ (by simp)
  | globalEnable | clears | enables | timeout | region | stages | pops => rfl
  | _ => simp

theorem ResetAct.keeps_pending {s t : State} (act : ResetAct s t) : t.pending = s.pending := by
  cases act with
  | softReset => simp [Machine.softReset]
  | holds => rfl
  | releases pass => simp [release, hold]

theorem exec_keeps_pending {c : Instr} {s t : State} (done : exec c s = .next t) : t.pending = s.pending :=
  exec_keeps (P := fun u => u.pending = s.pending) done rfl (fun _ _ act h => act.untouched.pending.trans h)
    (fun _ _ act h => act.keeps_pending.trans h) fun _ _ act h => act.keeps_pending.trans h

/-- A command that is not one of the three that can stop answers a next state. -/
theorem exec_answers (c : Instr) (s : State) : (∃ t, exec c s = .next t) ∨
    (∃ r, c = .memoryCompletion r ∧ s.resetLow = false ∧ s.inFlight = []
      ∧ exec c s = .fault .completionWithoutAccess) ∨
    (∃ m r, c = .arrival m r ∧ s.resetLow = true ∧ (s.port m).pendingArrival.isSome = true ∧ r.wellFormed = true
      ∧ exec c s = .fault .requestChannelBusy) ∨
    (∃ m r, c = .arrival m r ∧ r.wellFormed = false ∧ exec c s = .refused .requestLength) ∨
    (∃ w v, c = .narrowWrite w 0 v ∧ exec c s = .refused .noByteLanes) := by
  cases c with
  | arrival m r =>
    cases formed : r.wellFormed with
    | false => exact .inr (.inr (.inr (.inl ⟨m, r, rfl, formed, by simp [exec, execArrival, formed]⟩)))
    | true =>
      cases low : s.resetLow with
      | false => exact .inl ⟨judgeArrival m r s, by simp [exec, execArrival, formed, low]⟩
      | true =>
        cases busy : (s.port m).pendingArrival.isSome with
        | false => exact .inl ⟨_, by simp only [exec, execArrival, formed, low, busy]; rfl⟩
        | true => exact .inr (.inr (.inl ⟨m, r, rfl, rfl, busy, formed, by simp [exec, execArrival, formed, low, busy]⟩))
  | memoryCompletion r =>
    cases low : s.resetLow with
    | true => exact .inl ⟨s, by simp [exec, execMemoryCompletion, low]⟩
    | false =>
      cases flight : s.inFlight with
      | nil => exact .inr (.inl ⟨r, rfl, rfl, rfl, by simp [exec, execMemoryCompletion, low, flight]⟩)
      | cons x rest => exact .inl ⟨_, by simp only [exec, execMemoryCompletion, low, flight]; rfl⟩
  | narrowWrite w lanes v =>
    by_cases none : lanes = 0
    · subst none
      exact .inr (.inr (.inr (.inr ⟨w, v, rfl, rfl⟩)))
    · exact .inl ⟨_, by simp only [exec, execNarrowWrite, none, if_false]; rfl⟩
  | _ => exact .inl ⟨_, rfl⟩

/-- Settles O2: only three commands can answer otherwise than with a next state, and every act leaves the queue of commands. -/
theorem onlyProtocolBreachesStop : Obligations.OnlyProtocolBreachesStop := by
  intro c s
  refine (exec_answers c s).imp_left ?_
  rintro ⟨t, done⟩
  exact ⟨t, done, exec_keeps_pending done⟩

/-! ## Causes -/

theorem HostAct.grow {s t : State} {b : Bool} (act : HostAct false b s t) : CausesGrow s t := by
  cases act with
  | opens n =>
    obtain ⟨-, -, h⟩ | ⟨-, -, h⟩ | ⟨-, h⟩ := openCommand_cases n s <;> rw [h]
    · exact .of_eq rfl
    · exact setCause_grow _ _
    · exact setCause_grow _ _
  | closes n =>
    exact closeCommand_keeps (P := CausesGrow s) (setCause_grow _ _) (fun _ _ => closeNow_grow n (setResult n .closed s))
      (fun _ => .of_eq rfl) (fun u k h _ _ => h.trans (.of_eq (by simp))) (fun u h => h.trans (drainTest_grow n u))
  | halts n =>
    obtain ⟨-, h⟩ | ⟨-, h⟩ := haltCommand_cases n s <;> rw [h]
    · exact setCause_grow _ _
    · exact setCause_grow _ _
  | resumes n =>
    obtain ⟨-, h⟩ | ⟨-, h⟩ := resumeCommand_cases n s <;> rw [h]
    · exact .of_eq rfl
    · exact setCause_grow _ _
  | describes n w v =>
    unfold writeDescriptor
    dsimp only
    split
    · exact .of_eq rfl
    · exact setCause_grow .programmingError { s with progError := ⟨.descriptorBusy, descriptorOffset n w⟩ }
  | errs code off => exact setCause_grow .programmingError { s with progError := ⟨code, off⟩ }
  | sweeps m => exact (CausesGrow.of_eq (by simp)).trans (foldl_retire_grow _ _)
  | clears v allowed => cases allowed
  | _ => exact .of_eq rfl

/-- Settles O3: no act of the part, and none of the host but a write to the cause word, clears a cause. -/
theorem causesStayUntilTheHostClearsThem : Obligations.CausesStayUntilTheHostClearsThem := by
  intro c s t keeps done i set
  have ordinary : resetsPart c = false := by cases c <;> first | rfl | cases keeps
  exact ((exec_hostRuns (clearing := false) ordinary (by simp [keeps]) done).keep (P := CausesGrow s) (.of_eq rfl)
    (fun _ _ act h => h.trans act.grow) fun _ _ act h => h.trans act.grow).keeps set

/-! ## Configurations -/

theorem refuseCommand_config (n : ApertureId) (s : State) (j : ApertureId) :
    ((refuseCommand n s).aperture j).config = (s.aperture j).config := by
  rw [refuseCommand_aperture]; split
  · rename_i h; rw [h]; rfl
  · rfl

/-- A descriptor whose status fields alone are written keeps its configuration. -/
theorem setAperture_config {s : State} {n : ApertureId} {a : Aperture} (same : a.config = (s.aperture n).config)
    (j : ApertureId) : ((s.setAperture n a).aperture j).config = (s.aperture j).config := by
  rw [State.aperture_setAperture]; split
  · rename_i h; rw [h, same]
  · rfl

theorem openCommand_config (n : ApertureId) (s : State) (j : ApertureId) :
    ((openCommand n s).aperture j).config = (s.aperture j).config := by
  obtain ⟨-, -, h⟩ | ⟨-, -, h⟩ | ⟨-, h⟩ := openCommand_cases n s <;> rw [h]
  · exact setAperture_config (by simp [Aperture.config]) j
  · exact setAperture_config (a := { s.aperture n with lastResult := s.openCheck n }) (by simp [Aperture.config]) j
  · exact refuseCommand_config n s j

theorem closeCommand_config (n : ApertureId) (s : State) (j : ApertureId) :
    ((closeCommand n s).aperture j).config = (s.aperture j).config :=
  closeCommand_keeps (P := fun u => (u.aperture j).config = (s.aperture j).config) (refuseCommand_config n s j)
    (fun _ _ => (closeNow_config _ _ _).trans
      (setAperture_config (a := { s.aperture n with lastResult := .closed }) (by simp [Aperture.config]) j))
    (fun _ => setAperture_config (by simp [Aperture.config]) j)
    (fun u k h _ _ => by simpa [abortSlot] using h) (fun u h => by simpa using h)

theorem haltCommand_config (n : ApertureId) (s : State) (j : ApertureId) :
    ((haltCommand n s).aperture j).config = (s.aperture j).config := by
  obtain ⟨-, h⟩ | ⟨-, h⟩ := haltCommand_cases n s <;> rw [h]
  · exact setAperture_config (a := { s.aperture n with state := .halted, lastResult := .halted }) (by simp [Aperture.config]) j
  · exact refuseCommand_config n s j

theorem resumeCommand_config (n : ApertureId) (s : State) (j : ApertureId) :
    ((resumeCommand n s).aperture j).config = (s.aperture j).config := by
  obtain ⟨-, h⟩ | ⟨-, h⟩ := resumeCommand_cases n s <;> rw [h]
  · exact setAperture_config (by simp [Aperture.config]) j
  · exact refuseCommand_config n s j

theorem writeDescriptor_config {n j : ApertureId} {s : State} (busy : (s.aperture j).state ≠ .closed) (w : DescriptorWord)
    (v : Word) : ((writeDescriptor n w v s).aperture j).config = (s.aperture j).config := by
  simp only [writeDescriptor]
  split
  · rename_i closed
    rw [State.aperture_setAperture, if_neg]
    rintro rfl
    exact busy closed
  · simp

theorem writeCommand_config (n : ApertureId) (v : Word) (s : State) (j : ApertureId) :
    ((writeCommand n v s).aperture j).config = (s.aperture j).config := by
  unfold writeCommand
  split; · exact openCommand_config n s j
  split; · exact closeCommand_config n s j
  split; · exact haltCommand_config n s j
  split; · exact resumeCommand_config n s j
  simp

theorem Acts.untouched {s t : State} (acts : Acts s t) : Untouched s t :=
  acts.keep (P := Untouched s) (.refl s) fun _ _ act h => h.trans act.untouched

theorem resetPort_config (m : Master) (s : State) (j : ApertureId) :
    ((resetPort m s).aperture j).config = (s.aperture j).config := by
  unfold resetPort
  split
  · rfl
  · refine (Acts.untouched ((lowerFence_acts _ _).acts.tail (.ends _ m))).config j |>.trans ?_
    exact foldl_retire_keeps (P := fun u => (u.aperture j).config = (s.aperture j).config)
      (fun u n h => by simpa using h) _ _ (by simp)

theorem pushStaged_config (s : State) (j : ApertureId) :
    ((pushStaged s).aperture j).config = (s.aperture j).config := by
  unfold pushStaged
  split
  · simp
  · split
    · split
      · exact (handleHead_acts _ s).acts.untouched.config j
      · rfl
    · simp

/-- A command that has its effect only with RESET# high keeps what its effect keeps. -/
theorem keeps_of_whenReleased {P : State → Prop} {s t : State} {f : State → State} (done : whenReleased s f = .next t)
    (same : P s) (keeps : P (f s)) : P t := by
  obtain ⟨-, rfl⟩ | ⟨-, rfl⟩ := whenReleased_next done
  · exact same
  · exact keeps

/-- Settles O4: a descriptor word is stored while the aperture is Closed alone, and no other act touches a configuration. -/
theorem configurationStaysWhileNotClosed : Obligations.ConfigurationStaysWhileNotClosed := by
  intro c s t n notHost notNarrow notSoft notPin notRelease done busy
  have effect {f : State → State} (done : whenReleased s f = .next t)
      (keeps : ((f s).aperture n).config = (s.aperture n).config) : (t.aperture n).config = (s.aperture n).config :=
    keeps_of_whenReleased (P := fun u => (u.aperture n).config = (s.aperture n).config) done rfl keeps
  cases c with
  | openAperture o => exact effect done (openCommand_config o s n)
  | closeAperture o => exact effect done (closeCommand_config o s n)
  | haltAperture o => exact effect done (haltCommand_config o s n)
  | resumeAperture o => exact effect done (resumeCommand_config o s n)
  | badCommand o v => exact effect done (writeCommand_config o v s n)
  | descriptorWrite o w v => exact effect done (writeDescriptor_config busy w v)
  | portEnableWrite m e => exact effect done (by simp)
  | portReset m e =>
    dsimp only [exec, execPortReset] at done
    exact effect done ((resetPort_config m _ n).trans (by simp))
  | globalEnable e =>
    dsimp only [exec, execGlobalEnable] at done
    exact effect done rfl
  | stagingWrite w v =>
    dsimp only [exec, execStagingWrite] at done
    exact effect done rfl
  | causeClear v => exact effect (f := writeCause v) done rfl
  | causeEnableWrite v => exact effect (f := writeCauseEnable v) done rfl
  | parkTimeoutWrite v => exact effect (f := writeParkTimeout v) done rfl
  | regionWrite i v => exact effect (f := writeRegion i v) done rfl
  | push v => exact effect done (pushStaged_config s n)
  | pop v => exact effect (f := popRecord) done rfl
  | hostWrite w v => exact absurd rfl (notHost w v)
  | narrowWrite w l v => exact absurd rfl (notNarrow w l v)
  | softReset => exact absurd rfl notSoft
  | pinReset => exact absurd rfl notPin
  | resetRelease p o => exact absurd rfl (notRelease p o)
  | arrival m r =>
    simp only [exec, execArrival] at done
    split at done
    · cases done
    split at done
    · split at done
      · cases done
      · cases done; rfl
    · cases done; exact (judgeArrival_acts m r s).untouched.config n
  | _ => exact (exec_acts rfl (by simp) done).untouched.config n

/-- Settles O5: the acts of the part write none of it, and an arrival that waits through RESET# is kept on its channel. -/
theorem partEventsLeaveWhatTheHostOwns : Obligations.PartEventsLeaveWhatTheHostOwns := by
  intro c s t own done
  have untouched : Untouched s t := by
    by_cases waits : ∃ m r, c = .arrival m r ∧ s.resetLow = true
    · obtain ⟨m, r, rfl, low⟩ := waits
      simp only [exec, execArrival, low, if_true] at done
      split at done
      · cases done
      split at done
      · cases done
      · cases done; exact ⟨by simp, by simp, by simp, by simp, by simp, by simp, by simp, by simp, by simp, by simp⟩
    · refine (exec_acts own (fun m r h => ?_) done).untouched
      simpa using fun low => waits ⟨m, r, h, low⟩
  exact ⟨untouched.enables, untouched.regions, untouched.parkTimeout, untouched.staging, untouched.globalEnable,
    untouched.progError, untouched.passLatched, untouched.resetLow, untouched.config⟩

/-! ## Answers -/

/-- Nothing goes out on a channel in a move. -/
theorem Move.keeps_trace {o s t : State} (move : Move o s t) : t.trace = s.trace := by
  cases move with
  | draw | tick => rfl
  | _ => simp

/-- Settles O25: the answer goes out first, and what follows it is a chain of moves. -/
theorem everyArrivalGetsOneAnswer : Obligations.EveryArrivalGetsOneAnswer := by
  intro m r s t high done
  simp only [exec, execArrival, high] at done
  split at done
  · cases done
  · cases done
    obtain ⟨a, reach⟩ := judgeArrival_reach m r s
    exact ⟨a, reach.keep (P := fun u => u.trace = .answer m r.tag a :: s.trace) rfl
      fun _ _ move h => move.keeps_trace.trans h⟩

end Sys2Proof.Machine

/-! PROOFS. The laws of the two caches (sections 3.1, 3.2 and 3.5), move by move. -/

namespace Sys2Proof.Machine

/-! ## The page cache -/

theorem PageEntry.hasKey_iff (n : ApertureId) (p : Nat) (e : PageEntry) :
    e.hasKey n p = true ↔ e.aperture = n ∧ e.page = p := by
  simp [PageEntry.hasKey]

theorem PageEntry.sameKey_symm {a b : PageEntry} (h : a.sameKey b) : b.sameKey a := ⟨h.1.symm, h.2.symm⟩

/-- With one entry per key, the entries of the other keys are all but the one. -/
theorem filter_hasKey_eq_erase {l : List PageEntry} (keys : l.Pairwise fun a b => ¬ a.sameKey b) {e : PageEntry}
    (mem : e ∈ l) : l.filter (fun x => !x.hasKey e.aperture e.page) = l.erase e := by
  induction l with
  | nil => cases mem
  | cons a l ih =>
    obtain ⟨apart, keys⟩ := List.pairwise_cons.1 keys
    by_cases same : a = e
    · subst same
      have others : l.filter (fun x => !x.hasKey a.aperture a.page) = l := by
        refine List.filter_eq_self.2 fun x hx => ?_
        have := apart x hx
        simp only [PageEntry.hasKey, PageEntry.sameKey] at this ⊢
        simp only [Bool.not_eq_true', Bool.and_eq_false_iff, decide_eq_false_iff_not]
        by_contra h
        simp only [not_or, not_not] at h
        exact this ⟨h.1.symm, h.2.symm⟩
      simp [PageEntry.hasKey, List.erase_cons_head] at others ⊢
      exact others
    · have mem' : e ∈ l := by simpa [Ne.symm same] using mem
      have other : a.hasKey e.aperture e.page = false := by
        have := apart e mem'
        by_contra h
        simp only [Bool.not_eq_false, PageEntry.hasKey_iff] at h
        exact this h
      rw [List.erase_cons_tail (by simpa using same), List.filter_cons, ← ih keys mem']
      simp [other]

/-- A hit moves the entry to the end of the list, and leaves the others in their order. -/
theorem touchPage_eq {s : State} (keys : s.pageCache.Pairwise fun a b => ¬ a.sameKey b) {e : PageEntry}
    (mem : e ∈ s.pageCache) : touchPage e s = { s with pageCache := s.pageCache.erase e ++ [e] } := by
  rw [touchPage, filter_hasKey_eq_erase keys mem]

theorem perm_erase_append {α : Type} [DecidableEq α] {l : List α} {e : α} (mem : e ∈ l) : (l.erase e ++ [e]).Perm l :=
  (List.perm_append_comm).trans (List.perm_cons_erase mem).symm

/-- Removing entries keeps the law. -/
theorem PageCacheLaw.of_sublist {s t : State} (law : PageCacheLaw s) (fewer : t.pageCache.Sublist s.pageCache) :
    PageCacheLaw t where
  size := fewer.length_le.trans law.size
  keys := law.keys.sublist fewer
  pinned := (fewer.countP_le).trans law.pinned

theorem PageCacheLaw.touchPage {s : State} (law : PageCacheLaw s) {e : PageEntry} (mem : e ∈ s.pageCache) :
    PageCacheLaw (touchPage e s) := by
  have perm := perm_erase_append mem
  rw [touchPage_eq law.keys mem]
  constructor
  · exact perm.length_eq.trans_le law.size
  · exact (perm.pairwise_iff fun apart same => apart (PageEntry.sameKey_symm same)).2 law.keys
  · exact (perm.countP_eq _).trans_le law.pinned

theorem not_hasKey_of_makeRoom {n : ApertureId} {p : Nat} {l : List PageEntry} {x : PageEntry} (mem : x ∈ makeRoom n p l) :
    x.hasKey n p = false := by
  unfold makeRoom at mem
  split at mem
  · simpa using (List.mem_filter.1 mem).2
  · rename_i none
    have none : ∀ x ∈ l, x.hasKey n p = false := by simpa using none
    split at mem
    · exact none x mem
    · exact none x (List.mem_of_mem_eraseP mem)

theorem makeRoom_sublist (n : ApertureId) (p : Nat) (l : List PageEntry) : (makeRoom n p l).Sublist l := by
  unfold makeRoom
  split
  · exact List.filter_sublist
  · split
    · exact .refl l
    · exact List.eraseP_sublist

/-- A fill finds room: the entry of its key goes, or there is room, or an entry that is not pinned can go, since at most 8
are pinned (R51, R52). -/
theorem makeRoom_length {n : ApertureId} {p : Nat} {l : List PageEntry} (size : l.length ≤ Config.pageCacheEntries)
    (pinned : pinnedCount l ≤ Config.pinLimit) : (makeRoom n p l).length < Config.pageCacheEntries := by
  unfold makeRoom
  split
  · rename_i some
    obtain ⟨x, mem, key⟩ := List.any_eq_true.1 some
    refine lt_of_lt_of_le ?_ size
    exact List.length_filter_lt_length_iff_exists.2 ⟨x, mem, by simpa using key⟩
  · split
    · assumption
    · rename_i full
      have full : 32 ≤ l.length := by simpa using full
      have unpinned : ∃ x ∈ l, (!x.pinned) = true := by
        by_contra all
        have all : ∀ x ∈ l, x.pinned = true := by simpa using all
        have : pinnedCount l = l.length := List.countP_eq_length.2 all
        have : pinnedCount l ≤ 8 := pinned
        omega
      obtain ⟨x, mem, free⟩ := unpinned
      have : (evictPage l).length = l.length - 1 := List.length_eraseP_of_mem mem free
      have size : l.length ≤ 32 := size
      change (evictPage l).length < 32
      omega

theorem PageCacheLaw.fillPage {s : State} (law : PageCacheLaw s) (n : ApertureId) (p : Nat) (f : Frame) (a : MapAccess)
    (keep : Bool) : PageCacheLaw (fillPage n p f a keep s) := by
  by_cases live : (s.aperture n).state = .opened ∨ (s.aperture n).state = .halted
  · have filled : (Machine.fillPage n p f a keep s).pageCache = makeRoom n p s.pageCache ++
        [⟨n, p, f, a, keep && decide (pinnedCount (makeRoom n p s.pageCache) < Config.pinLimit)⟩] := by
      simp only [Machine.fillPage, Bool.or_eq_true, decide_eq_true_eq, live, if_true]
      split <;> simp
    have fewer := makeRoom_sublist n p s.pageCache
    constructor
    · rw [filled, List.length_append]
      exact makeRoom_length law.size law.pinned
    · rw [filled]
      refine List.pairwise_append.2 ⟨law.keys.sublist fewer, by simp, fun x hx y hy => ?_⟩
      obtain rfl := List.mem_singleton.1 hy
      have := not_hasKey_of_makeRoom hx
      intro same
      rw [Bool.eq_false_iff] at this
      exact this ((PageEntry.hasKey_iff n p x).2 same)
    · have le : pinnedCount (makeRoom n p s.pageCache) ≤ Config.pinLimit := fewer.countP_le.trans law.pinned
      rw [filled]
      unfold pinnedCount at le ⊢
      rw [List.countP_append, List.countP_singleton]
      split
      · rename_i room
        simp only [Bool.and_eq_true, decide_eq_true_eq] at room
        exact room.2
      · exact le
  · have : Machine.fillPage n p f a keep s = s := by simp [Machine.fillPage]; intro h; exact absurd h live
    rwa [this]


/-! ## The directory cache -/

theorem DirEntry.hasKey_iff (n : ApertureId) (i : Nat) (e : DirEntry) : e.hasKey n i = true ↔ e.aperture = n ∧ e.index = i := by
  simp [DirEntry.hasKey]

/-- Removing entries keeps the law. -/
theorem DirCacheLaw.of_sublist {s t : State} (law : DirCacheLaw s) (fewer : t.dirCache.Sublist s.dirCache) :
    DirCacheLaw t where
  size := fewer.length_le.trans law.size
  keys := law.keys.sublist fewer

/-- An entry joins entries of other keys that leave room for it. -/
theorem DirCacheLaw.of_append {s t : State} (law : DirCacheLaw s) {l : List DirEntry} {e : DirEntry}
    (filled : t.dirCache = l ++ [e]) (fewer : l.Sublist s.dirCache) (room : l.length < Config.dirCacheEntries)
    (others : ∀ x ∈ l, x.hasKey e.aperture e.index = false) : DirCacheLaw t where
  size := by rw [filled, List.length_append]; exact room
  keys := by
    rw [filled]
    refine List.pairwise_append.2 ⟨law.keys.sublist fewer, by simp, fun x hx y hy => ?_⟩
    obtain rfl := List.mem_singleton.1 hy
    exact fun same => Bool.eq_false_iff.1 (others x hx) ((DirEntry.hasKey_iff _ _ x).2 same)

theorem length_filter_not_hasKey_lt {l : List DirEntry} {e : DirEntry} (mem : e ∈ l) {n : ApertureId} {i : Nat}
    (key : e.hasKey n i = true) : (l.filter fun x => !x.hasKey n i).length < l.length :=
  List.length_filter_lt_length_iff_exists.2 ⟨e, mem, by simpa using key⟩

theorem DirCacheLaw.touchDir {s : State} (law : DirCacheLaw s) {e : DirEntry} (mem : e ∈ s.dirCache) :
    DirCacheLaw (touchDir e s) :=
  law.of_append rfl List.filter_sublist
    ((length_filter_not_hasKey_lt mem ((DirEntry.hasKey_iff _ _ e).2 ⟨rfl, rfl⟩)).trans_le law.size)
    fun x hx => by simpa using (List.mem_filter.1 hx).2

theorem makeDirRoom_sublist (n : ApertureId) (i : Nat) (l : List DirEntry) : (makeDirRoom n i l).Sublist l := by
  unfold makeDirRoom
  split
  · exact List.filter_sublist
  · split
    · exact .refl l
    · exact List.drop_sublist 1 l

theorem not_hasKey_of_makeDirRoom {n : ApertureId} {i : Nat} {l : List DirEntry} {x : DirEntry}
    (mem : x ∈ makeDirRoom n i l) : x.hasKey n i = false := by
  unfold makeDirRoom at mem
  split at mem
  · simpa using (List.mem_filter.1 mem).2
  · rename_i none
    have none : ∀ x ∈ l, x.hasKey n i = false := by simpa using none
    split at mem
    · exact none x mem
    · exact none x (List.mem_of_mem_drop mem)

/-- A directory fill finds room: the entry of its key goes, or there is room, or the least recent entry goes (R56). -/
theorem makeDirRoom_length {n : ApertureId} {i : Nat} {l : List DirEntry} (size : l.length ≤ Config.dirCacheEntries) :
    (makeDirRoom n i l).length < Config.dirCacheEntries := by
  unfold makeDirRoom
  split
  · rename_i some
    obtain ⟨x, mem, key⟩ := List.any_eq_true.1 some
    exact (length_filter_not_hasKey_lt mem key).trans_le size
  · split
    · assumption
    · have size : l.length ≤ 8 := size
      change (l.drop 1).length < 8
      rw [List.length_drop]
      omega

/-- The directory cache after a fill: an entry joins it, or none does (R56). -/
theorem fillDir_dirCache (w : Walk) (f : Frame) (s : State) :
    ((s.aperture w.aperture).state ≠ .closed ∧ (fillDir w f s).dirCache =
      makeDirRoom w.aperture (w.page / 1024) s.dirCache ++ [⟨w.aperture, w.page / 1024, f⟩]) ∨
    (fillDir w f s).dirCache = s.dirCache := by
  simp only [fillDir]
  split
  · rename_i takes
    refine .inl ⟨fun closed => ?_, rfl⟩
    simp [closed] at takes
  · exact .inr rfl

theorem DirCacheLaw.fillDir {s : State} (law : DirCacheLaw s) (w : Walk) (f : Frame) : DirCacheLaw (fillDir w f s) := by
  obtain ⟨-, filled⟩ | same := fillDir_dirCache w f s
  · exact law.of_append filled (makeDirRoom_sublist _ _ _) (makeDirRoom_length law.size) fun x hx =>
      not_hasKey_of_makeDirRoom hx
  · exact law.of_sublist (by rw [same])

/-! ## Caches that lose entries -/

/-- From `s` to `t` the caches only lose entries, and an aperture that reaches Closed loses all of its own. -/
structure CachesShrink (s t : State) : Prop where
  pages : t.pageCache.Sublist s.pageCache
  dirs : t.dirCache.Sublist s.dirCache
  livePages : ∀ e ∈ t.pageCache, (t.aperture e.aperture).state = .closed → (s.aperture e.aperture).state = .closed
  liveDirs : ∀ e ∈ t.dirCache, (t.aperture e.aperture).state = .closed → (s.aperture e.aperture).state = .closed

theorem CachesShrink.of_states {s t : State} (pages : t.pageCache = s.pageCache) (dirs : t.dirCache = s.dirCache)
    (live : ∀ n, (t.aperture n).state = .closed → (s.aperture n).state = .closed) : CachesShrink s t where
  pages := by rw [pages]
  dirs := by rw [dirs]
  livePages e _ := live e.aperture
  liveDirs e _ := live e.aperture

theorem CachesShrink.refl (s : State) : CachesShrink s s := .of_states rfl rfl fun _ => id

theorem CachesShrink.trans {s t u : State} (h : CachesShrink s t) (h' : CachesShrink t u) : CachesShrink s u where
  pages := h'.pages.trans h.pages
  dirs := h'.dirs.trans h.dirs
  livePages e mem closed := h.livePages e (h'.pages.subset mem) (h'.livePages e mem closed)
  liveDirs e mem closed := h.liveDirs e (h'.dirs.subset mem) (h'.liveDirs e mem closed)

/-- Empty caches. -/
theorem CachesShrink.of_nil {s t : State} (pages : t.pageCache = []) (dirs : t.dirCache = []) : CachesShrink s t where
  pages := by simp [pages]
  dirs := by simp [dirs]
  livePages e mem := by simp [pages] at mem
  liveDirs e mem := by simp [dirs] at mem

theorem haltOnFault_shrink (n : ApertureId) (s : State) : CachesShrink s (haltOnFault n s) := by
  refine .of_states (by simp) (by simp) fun j => ?_
  rw [haltOnFault_aperture]
  split <;> simp

theorem closeNow_shrink (n : ApertureId) (s : State) : CachesShrink s (closeNow n s) where
  pages := List.filter_sublist
  dirs := List.filter_sublist
  livePages e mem closed := by
    have other : e.aperture ≠ n := by simpa using (List.mem_filter.1 mem).2
    simpa [closeNow_aperture, other] using closed
  liveDirs e mem closed := by
    have other : e.aperture ≠ n := by simpa using (List.mem_filter.1 mem).2
    simpa [closeNow_aperture, other] using closed

theorem drainTest_shrink (n : ApertureId) (s : State) : CachesShrink s (drainTest n s) := by
  unfold drainTest
  split
  · exact closeNow_shrink n s
  · exact .refl s

theorem lowerCount_shrink (n : ApertureId) (s : State) : CachesShrink s (lowerCount n s) := by
  refine .of_states (by simp) (by simp) fun j => ?_
  rw [lowerCount_aperture]
  split
  · rename_i same; rw [same]; exact id
  · exact id

theorem retire_shrink (n : ApertureId) (s : State) : CachesShrink s (retire n s) :=
  (lowerCount_shrink n s).trans (drainTest_shrink n _)

/-- A change of a descriptor that does not close it leaves the caches as they are. -/
theorem setAperture_shrink {s : State} {n : ApertureId} {a : Aperture}
    (live : a.state = .closed → (s.aperture n).state = .closed) : CachesShrink s (s.setAperture n a) := by
  refine .of_states rfl rfl fun j => ?_
  rw [State.aperture_setAperture]
  split
  · rename_i same; rw [same]; exact live
  · exact id

theorem admitRequest_shrink (m : Master) (r : Request) (n : ApertureId) (s : State) :
    CachesShrink s (admitRequest m r n s) := by
  refine .of_states (by simp) (by simp) fun j => ?_
  rw [admitRequest_aperture]
  split
  · rename_i same; rw [same]; exact id
  · exact id

/-- The moves that touch or fill a cache. -/
inductive CacheMove (s : State) : State → Prop
  | touchPage (e : PageEntry) (mem : e ∈ s.pageCache) : CacheMove s (touchPage e s)
  | fillPage (n : ApertureId) (page : Nat) (f : Frame) (a : MapAccess) (keep : Bool) :
      CacheMove s (fillPage n page f a keep s)
  | touchDir (e : DirEntry) (mem : e ∈ s.dirCache) : CacheMove s (touchDir e s)
  | fillDir (w : Walk) (f : Frame) : CacheMove s (fillDir w f s)

/-- Every other move only takes entries out. -/
theorem Move.shrinks {o s t : State} (move : Move o s t) : CacheMove s t ∨ CachesShrink s t := by
  have plain {u : State} (pages : u.pageCache = s.pageCache) (dirs : u.dirCache = s.dirCache)
      (same : ∀ n, u.aperture n = s.aperture n) : CachesShrink s u :=
    .of_states pages dirs fun n => by rw [same]; exact id
  cases move with
  | touchPage e mem => exact .inl (.touchPage e mem)
  | fillPage n page f a keep => exact .inl (.fillPage n page f a keep)
  | touchDir e mem => exact .inl (.touchDir e mem)
  | fillDir w f => exact .inl (.fillDir w f)
  | halt n => exact .inr (haltOnFault_shrink n s)
  | drain n => exact .inr (drainTest_shrink n s)
  | idle c w => exact .inr ((plain (by simp) (by simp) (by simp)).trans (drainTest_shrink w.aperture _))
  | leave k x => exact .inr ((plain (by simp) (by simp) (by simp)).trans (retire_shrink k.aperture _))
  | takeFault m r n k =>
    have pushed : CachesShrink (admitRequest m r n s) (pushCompletion m ⟨r.tag, .fault k⟩ (admitRequest m r n s)) :=
      .of_states (by simp) (by simp) fun j => by simp
    exact .inr ((((admitRequest_shrink m r n s).trans pushed).trans (haltOnFault_shrink n _)).trans (retire_shrink n _))
  | takeRead m r n arrival beats phys =>
    exact .inr ((admitRequest_shrink m r n s).trans (.of_states (by simp) (by simp) fun j => by simp))
  | takeWrite m r n arrival beats phys posting =>
    exact .inr ((admitRequest_shrink m r n s).trans (.of_states (by simp) (by simp) fun j => by simp))
  | takePark m r n num page arrival place =>
    exact .inr ((admitRequest_shrink m r n s).trans (.of_states (by simp) (by simp) fun j => by simp))
  | draw | tick => exact .inr (.of_states rfl rfl fun _ => id)
  | _ => exact .inr (plain (by simp) (by simp) (by simp))


/-- A change that leaves the caches and the descriptors. -/
theorem CachesShrink.of_same {s t : State} (pages : t.pageCache = s.pageCache) (dirs : t.dirCache = s.dirCache)
    (same : ∀ n, t.aperture n = s.aperture n) : CachesShrink s t :=
  .of_states pages dirs fun n => by rw [same]; exact id

theorem executeInv_shrink (q : InvCommand) (s : State) : CachesShrink s (executeInv q s) where
  pages := List.filter_sublist
  dirs := List.filter_sublist
  livePages _ _ := id
  liveDirs _ _ := id

theorem foldl_retire_shrink (l : List ApertureId) (s : State) : CachesShrink s (l.foldl (fun t n => retire n t) s) :=
  foldl_retire_keeps (P := CachesShrink s) (fun u n h => h.trans (retire_shrink n u)) l s (.refl s)

theorem refuseCommand_shrink (n : ApertureId) (s : State) : CachesShrink s (refuseCommand n s) := by
  refine .of_states rfl rfl fun j => ?_
  rw [refuseCommand_aperture]
  split
  · rename_i same; rw [same]; exact id
  · exact id

/-- An act of the part is a chain of moves, or it only takes entries out. -/
theorem Act.shrinks {s t : State} (act : Act s t) : Reach s t ∨ CachesShrink s t := by
  cases act with
  | moves reach => exact .inl reach
  | invalidates q => exact .inr (executeInv_shrink q s)
  | read r x rest =>
    exact .inr ((CachesShrink.of_same (by simp) (by simp) fun j => by simp).trans (retire_shrink r.aperture _))
  | write r x rest =>
    exact .inr ((CachesShrink.of_same (by simp) (by simp) fun j => by simp).trans (retire_shrink r.aperture _))
  | grantWalk c w t room walks =>
    exact .inr (.of_same (by simp [Machine.grantWalk, walks]) (by simp [Machine.grantWalk, walks])
      fun j => by simp [Machine.grantWalk, walks])
  | fences | marks | drops | walkRead | grantRead | grantWrite => exact .inr (.of_same rfl rfl fun _ => rfl)
  | _ => exact .inr (.of_same (by simp) (by simp) fun j => by simp)

theorem closeCommand_shrink (n : ApertureId) (s : State) : CachesShrink s (closeCommand n s) := by
  have setResult_shrink : CachesShrink s (setResult n .closed s) := setAperture_shrink id
  exact closeCommand_keeps (P := CachesShrink s) (refuseCommand_shrink n s)
    (fun _ _ => setResult_shrink.trans (closeNow_shrink n _)) (fun _ => setAperture_shrink (by simp))
    (fun u k h _ _ => h.trans ((CachesShrink.of_same (by simp) (by simp) fun j => by simp).trans
      (lowerCount_shrink k.aperture _))) fun u h => h.trans (drainTest_shrink n u)

/-- No act of the host fills a cache, and a Close takes out the entries of its aperture. -/
theorem HostAct.shrinks {b b' : Bool} {s t : State} (act : HostAct b b' s t) : CachesShrink s t := by
  cases act with
  | opens n =>
    obtain ⟨-, -, h⟩ | ⟨-, -, h⟩ | ⟨-, h⟩ := openCommand_cases n s <;> rw [h]
    · exact setAperture_shrink (by simp)
    · exact (setAperture_shrink (a := { s.aperture n with lastResult := s.openCheck n }) id).trans
        (.of_same rfl rfl fun _ => rfl)
    · exact refuseCommand_shrink n s
  | closes n => exact closeCommand_shrink n s
  | halts n =>
    obtain ⟨-, h⟩ | ⟨-, h⟩ := haltCommand_cases n s <;> rw [h]
    · exact (setAperture_shrink (n := n) (a := { s.aperture n with state := .halted, lastResult := .halted })
        (by simp)).trans (.of_same rfl rfl fun _ => rfl)
    · exact refuseCommand_shrink n s
  | resumes n =>
    obtain ⟨-, h⟩ | ⟨-, h⟩ := resumeCommand_cases n s <;> rw [h]
    · exact setAperture_shrink (by simp)
    · exact refuseCommand_shrink n s
  | describes n w v =>
    simp only [writeDescriptor]
    split
    · rename_i closed; exact setAperture_shrink fun _ => closed
    · exact .of_same (by simp) (by simp) fun j => by simp
  | sweeps m live =>
    exact (CachesShrink.of_same (by simp) (by simp) fun j => by simp).trans (foldl_retire_shrink _ _)
  | globalEnable | clears | enables | timeout | region | stages | pops => exact .of_same rfl rfl fun _ => rfl
  | _ => exact .of_same (by simp) (by simp) fun j => by simp

theorem ResetAct.shrinks {s t : State} (act : ResetAct s t) : CachesShrink s t := by
  cases act with
  | softReset => exact .of_nil (by simp [Machine.softReset]) (by simp [Machine.softReset])
  | holds => exact .of_nil rfl rfl
  | releases pass => exact .of_nil (by simp [release, hold, State.reset]) (by simp [release, hold, State.reset])

/-! ## The laws of the caches -/

/-- A property that the touches and fills of the caches keep, and every loss of entries, is kept by every step. -/
theorem step_keeps_caches {P : State → Prop} {s t : State} (done : step s = .next t) (holds : P s)
    (blind : ∀ s l, P s → P { s with pending := l }) (moves : ∀ s t, CacheMove s t → P s → P t)
    (shrinks : ∀ s t, CachesShrink s t → P s → P t) : P t :=
  step_keeps done holds blind
    (fun s t act law => act.shrinks.elim
      (fun reach => reach.keep law fun u v move => move.shrinks.elim (moves u v) (shrinks u v)) fun fewer => shrinks s t fewer law)
    (fun s t act => shrinks s t act.shrinks) fun s t act => shrinks s t act.shrinks

theorem ClosedLaw.of_shrink {s t : State} (law : ClosedLaw s) (fewer : CachesShrink s t) : ClosedLaw t where
  pages e mem closed := law.pages e (fewer.pages.subset mem) (fewer.livePages e mem closed)
  dirs e mem closed := law.dirs e (fewer.dirs.subset mem) (fewer.liveDirs e mem closed)

/-- A fill of the page cache is taken for an aperture that is Open or Halted (R51, R66). -/
theorem mem_fillPage {n : ApertureId} {page : Nat} {f : Frame} {a : MapAccess} {keep : Bool} {s : State} {e : PageEntry}
    (mem : e ∈ (fillPage n page f a keep s).pageCache) :
    e ∈ s.pageCache ∨ (s.aperture e.aperture).state ≠ .closed := by
  by_cases live : (s.aperture n).state = .opened ∨ (s.aperture n).state = .halted
  · obtain ⟨entry, own, filled⟩ : ∃ entry : PageEntry, entry.aperture = n ∧
        (fillPage n page f a keep s).pageCache = makeRoom n page s.pageCache ++ [entry] := by
      simp only [fillPage, Bool.or_eq_true, decide_eq_true_eq, live, if_true]
      split <;> exact ⟨_, rfl, rfl⟩
    rw [filled, List.mem_append, List.mem_singleton] at mem
    obtain mem | rfl := mem
    · exact .inl ((makeRoom_sublist _ _ _).subset mem)
    · exact .inr (by obtain h | h := live <;> simp [own, h])
  · have same : fillPage n page f a keep s = s := by
      simp only [fillPage, Bool.or_eq_true, decide_eq_true_eq, live, if_false]
    exact .inl (by rwa [same] at mem)

theorem mem_fillDir {w : Walk} {f : Frame} {s : State} {e : DirEntry} (mem : e ∈ (fillDir w f s).dirCache) :
    e ∈ s.dirCache ∨ (s.aperture e.aperture).state ≠ .closed := by
  obtain ⟨live, filled⟩ | same := fillDir_dirCache w f s
  · rw [filled, List.mem_append, List.mem_singleton] at mem
    obtain mem | rfl := mem
    · exact .inl ((makeDirRoom_sublist _ _ _).subset mem)
    · exact .inr live
  · exact .inl (by rwa [same] at mem)

theorem mem_touchPage {e x : PageEntry} {s : State} (held : e ∈ s.pageCache) (mem : x ∈ (touchPage e s).pageCache) :
    x ∈ s.pageCache := by
  obtain mem | rfl : x ∈ s.pageCache.filter (fun x => !x.hasKey e.aperture e.page) ∨ x = e := by
    simpa [touchPage] using mem
  · exact (List.mem_filter.1 mem).1
  · exact held

theorem mem_touchDir {e x : DirEntry} {s : State} (held : e ∈ s.dirCache) (mem : x ∈ (touchDir e s).dirCache) :
    x ∈ s.dirCache := by
  obtain mem | rfl : x ∈ s.dirCache.filter (fun x => !x.hasKey e.aperture e.index) ∨ x = e := by
    simpa [touchDir] using mem
  · exact (List.mem_filter.1 mem).1
  · exact held

theorem CacheMove.keeps_pageCacheLaw {s t : State} (move : CacheMove s t) (law : PageCacheLaw s) : PageCacheLaw t := by
  cases move with
  | touchPage e mem => exact law.touchPage mem
  | fillPage n page f a keep => exact law.fillPage n page f a keep
  | touchDir | fillDir => exact law.of_sublist (by simp)

theorem CacheMove.keeps_dirCacheLaw {s t : State} (move : CacheMove s t) (law : DirCacheLaw s) : DirCacheLaw t := by
  cases move with
  | touchDir e mem => exact law.touchDir mem
  | fillDir w f => exact law.fillDir w f
  | touchPage | fillPage => exact law.of_sublist (by simp)

theorem CacheMove.keeps_closedLaw {s t : State} (move : CacheMove s t) (law : ClosedLaw s) : ClosedLaw t := by
  cases move with
  | touchPage e held => exact ⟨fun x mem => by simpa using law.pages x (mem_touchPage held mem), by simpa using law.dirs⟩
  | touchDir e held => exact ⟨by simpa using law.pages, fun x mem => by simpa using law.dirs x (mem_touchDir held mem)⟩
  | fillPage n page f a keep =>
    exact ⟨fun x mem => by simpa using (mem_fillPage mem).elim (law.pages x) id, by simpa using law.dirs⟩
  | fillDir w f => exact ⟨by simpa using law.pages, fun x mem => by simpa using (mem_fillDir mem).elim (law.dirs x) id⟩

/-- Settles O7: the touches and fills find room and keep one entry per key, and everything else only takes entries out. -/
theorem cachesKeepTheirLaws : Obligations.CachesKeepTheirLaws := by
  intro s t done
  refine ⟨fun law => ?_, fun law => ?_, fun law => ?_⟩
  · exact step_keeps_caches done law (fun _ _ h => ⟨h.size, h.keys, h.pinned⟩) (fun _ _ => CacheMove.keeps_pageCacheLaw)
      fun _ _ fewer h => h.of_sublist fewer.pages
  · exact step_keeps_caches done law (fun _ _ h => ⟨h.size, h.keys⟩) (fun _ _ => CacheMove.keeps_dirCacheLaw)
      fun _ _ fewer h => h.of_sublist fewer.dirs
  · exact step_keeps_caches done law (fun _ _ h => ⟨h.pages, h.dirs⟩) (fun _ _ => CacheMove.keeps_closedLaw)
      fun _ _ fewer h => h.of_shrink fewer

end Sys2Proof.Machine

/-! PROOFS. The ranges of the apertures stay legal and apart: only an Open that passes its checks brings one in (sections 1.1
and 1.3). -/

namespace Sys2Proof.Machine

/-- From `s` to `t` no aperture leaves Closed, and those that are not Closed keep their configuration. -/
def RangesKept (s t : State) : Prop := ∀ n, (t.aperture n).state ≠ .closed →
  (s.aperture n).state ≠ .closed ∧ (t.aperture n).config = (s.aperture n).config

theorem RangesKept.of_same {s t : State} (same : ∀ n, t.aperture n = s.aperture n) : RangesKept s t :=
  fun n live => ⟨by rwa [← same], by rw [same]⟩

theorem RangesKept.refl (s : State) : RangesKept s s := .of_same fun _ => rfl

theorem RangesKept.trans {s t u : State} (h : RangesKept s t) (h' : RangesKept t u) : RangesKept s u := fun n live =>
  have ⟨live, same⟩ := h' n live
  ⟨(h n live).1, same.trans (h n live).2⟩

theorem Aperture.base_of_config {a b : Aperture} (same : a.config = b.config) : a.base = b.base :=
  show a.config.base = b.config.base by rw [same]

theorem Aperture.sizeCode_of_config {a b : Aperture} (same : a.config = b.config) : a.sizeCode = b.sizeCode :=
  show a.config.sizeCode = b.config.sizeCode by rw [same]

theorem Aperture.size_of_config {a b : Aperture} (same : a.config = b.config) : a.size = b.size := by
  rw [Aperture.size, Aperture.size, Aperture.sizeCode_of_config same]

theorem ApertureLaw.of_kept {s t : State} (law : ApertureLaw s) (kept : RangesKept s t) : ApertureLaw t where
  legal n live := by
    obtain ⟨live, same⟩ := kept n live
    rw [Aperture.base_of_config same, Aperture.size_of_config same, Aperture.sizeCode_of_config same]
    exact law.legal n live
  apart n o other live live' := by
    obtain ⟨live, same⟩ := kept n live
    obtain ⟨live', same'⟩ := kept o live'
    have := law.apart n o other live live'
    unfold Aperture.overlaps at this ⊢
    rwa [Aperture.base_of_config same, Aperture.size_of_config same, Aperture.base_of_config same',
      Aperture.size_of_config same']

/-- A change of one descriptor that leaves its configuration and does not take it out of Closed. -/
theorem setAperture_ranges {s : State} {n : ApertureId} {a : Aperture} (config : a.config = (s.aperture n).config)
    (live : a.state ≠ .closed → (s.aperture n).state ≠ .closed) : RangesKept s (s.setAperture n a) := by
  intro j
  rw [State.aperture_setAperture]
  split
  · rename_i same; rw [same]; exact fun h => ⟨live h, config⟩
  · exact fun h => ⟨h, rfl⟩

theorem haltOnFault_ranges (n : ApertureId) (s : State) : RangesKept s (haltOnFault n s) := by
  intro j
  rw [haltOnFault_aperture]
  split
  · rename_i h
    obtain ⟨rfl, -, opened⟩ := h
    exact fun _ => ⟨by simp [opened], rfl⟩
  · exact fun h => ⟨h, rfl⟩

theorem closeNow_ranges (n : ApertureId) (s : State) : RangesKept s (closeNow n s) := by
  intro j
  rw [closeNow_aperture]
  split
  · exact fun h => absurd rfl h
  · exact fun h => ⟨h, rfl⟩

theorem drainTest_ranges (n : ApertureId) (s : State) : RangesKept s (drainTest n s) := by
  unfold drainTest
  split
  · exact closeNow_ranges n s
  · exact .refl s

theorem lowerCount_ranges (n : ApertureId) (s : State) : RangesKept s (lowerCount n s) := by
  intro j
  rw [lowerCount_aperture]
  split
  · rename_i same; rw [same]; exact fun h => ⟨h, rfl⟩
  · exact fun h => ⟨h, rfl⟩

theorem retire_ranges (n : ApertureId) (s : State) : RangesKept s (retire n s) :=
  (lowerCount_ranges n s).trans (drainTest_ranges n _)

theorem admitRequest_ranges (m : Master) (r : Request) (n : ApertureId) (s : State) :
    RangesKept s (admitRequest m r n s) := by
  intro j
  rw [admitRequest_aperture]
  split
  · rename_i same; rw [same]; exact fun h => ⟨h, rfl⟩
  · exact fun h => ⟨h, rfl⟩

theorem refuseCommand_ranges (n : ApertureId) (s : State) : RangesKept s (refuseCommand n s) := by
  intro j
  rw [refuseCommand_aperture]
  split
  · rename_i same; rw [same]; exact fun h => ⟨h, rfl⟩
  · exact fun h => ⟨h, rfl⟩

theorem Move.ranges {o s t : State} (move : Move o s t) : RangesKept s t := by
  cases move with
  | halt n => exact haltOnFault_ranges n s
  | drain n => exact drainTest_ranges n s
  | idle c w => exact (RangesKept.of_same (by simp)).trans (drainTest_ranges w.aperture _)
  | leave k x => exact (RangesKept.of_same (by simp)).trans (retire_ranges k.aperture _)
  | takeFault m r n k =>
    have pushed : RangesKept (admitRequest m r n s) (pushCompletion m ⟨r.tag, .fault k⟩ (admitRequest m r n s)) :=
      .of_same (by simp)
    exact (((admitRequest_ranges m r n s).trans pushed).trans (haltOnFault_ranges n _)).trans (retire_ranges n _)
  | takeRead m r n => exact (admitRequest_ranges m r n s).trans (.of_same (by simp))
  | takeWrite m r n => exact (admitRequest_ranges m r n s).trans (.of_same (by simp))
  | takePark m r n => exact (admitRequest_ranges m r n s).trans (.of_same (by simp))
  | draw | tick => exact .of_same fun _ => rfl
  | _ => exact .of_same (by simp)

theorem Act.ranges {s t : State} (act : Act s t) : RangesKept s t := by
  cases act with
  | moves reach => exact reach.keep (P := RangesKept s) (.refl s) fun _ _ move h => h.trans move.ranges
  | read r x rest => exact (RangesKept.of_same (by simp)).trans (retire_ranges r.aperture _)
  | write r x rest => exact (RangesKept.of_same (by simp)).trans (retire_ranges r.aperture _)
  | grantWalk c w t room walks => exact .of_same (by simp [Machine.grantWalk, walks])
  | fences | marks | drops | walkRead => exact .of_same fun _ => rfl
  | _ => exact .of_same (by simp)

theorem closeCommand_ranges (n : ApertureId) (s : State) : RangesKept s (closeCommand n s) := by
  refine closeCommand_keeps (P := RangesKept s) (refuseCommand_ranges n s) (fun live _ => ?_) (fun live => ?_)
    (fun u k h _ _ => h.trans ((RangesKept.of_same (by simp)).trans (lowerCount_ranges k.aperture _)))
    fun u h => h.trans (drainTest_ranges n u)
  · exact (setAperture_ranges (a := { s.aperture n with lastResult := .closed }) rfl id).trans (closeNow_ranges n _)
  · exact setAperture_ranges rfl fun _ => by obtain h | h := live <;> simp [h]

/-! ## The Open command -/

theorem mem_allApertures (n : ApertureId) : n ∈ allApertures := by revert n; decide

/-- What the six checks of an Open make sure of the range (R14, R15). -/
theorem State.range_of_openCheck {s : State} {n : ApertureId} (passes : s.openCheck n = .opened) :
    (s.aperture n).sizeCode.toNat ≤ 8 ∧ (s.aperture n).base.toNat % (s.aperture n).size = 0 ∧
      ∀ o, o ≠ n → (s.aperture o).state ≠ .closed → (s.aperture n).overlaps (s.aperture o) = false := by
  simp only [State.openCheck] at passes
  split at passes; · cases passes
  split at passes; · cases passes
  split at passes; · cases passes
  split at passes; · cases passes
  split at passes; · cases passes
  split at passes; · cases passes
  rename_i size aligned _ _ _ apart
  refine ⟨by omega, by simpa using aligned, fun o other live => ?_⟩
  rw [Bool.not_eq_true, List.any_eq_false] at apart
  simpa [other, live] using apart o (mem_allApertures o)

theorem Aperture.overlaps_comm (a b : Aperture) : a.overlaps b = b.overlaps a := Bool.and_comm _ _

theorem ApertureLaw.opens {s : State} (law : ApertureLaw s) {n : ApertureId} (passes : s.openCheck n = .opened) :
    ApertureLaw (s.setAperture n { s.aperture n with state := .opened, lastResult := .opened }) := by
  obtain ⟨size, aligned, free⟩ := State.range_of_openCheck passes
  constructor
  · intro j
    rw [State.aperture_setAperture]
    split
    · exact fun _ => ⟨size, aligned⟩
    · exact law.legal j
  · intro j k other
    rw [State.aperture_setAperture, State.aperture_setAperture]
    split <;> split
    · rename_i own own'; exact absurd (own.trans own'.symm) other
    · rename_i own others; exact fun _ live => free k others live
    · rename_i others own; exact fun live _ => (Aperture.overlaps_comm _ _).trans (free j others live)
    · exact law.apart j k other

theorem HostAct.keeps_apertureLaw {b b' : Bool} {s t : State} (act : HostAct b b' s t) (law : ApertureLaw s) : ApertureLaw t := by
  cases act with
  | opens n =>
    obtain ⟨-, passes, h⟩ | ⟨-, -, h⟩ | ⟨-, h⟩ := openCommand_cases n s <;> rw [h]
    · exact law.opens passes
    · exact law.of_kept ((setAperture_ranges (a := { s.aperture n with lastResult := s.openCheck n }) rfl id).trans
        (.of_same fun _ => rfl))
    · exact law.of_kept (refuseCommand_ranges n s)
  | closes n => exact law.of_kept (closeCommand_ranges n s)
  | halts n =>
    obtain ⟨opened, h⟩ | ⟨-, h⟩ := haltCommand_cases n s <;> rw [h]
    · exact law.of_kept ((setAperture_ranges (n := n) (a := { s.aperture n with state := .halted, lastResult := .halted })
        rfl (by simp [opened])).trans (.of_same fun _ => rfl))
    · exact law.of_kept (refuseCommand_ranges n s)
  | resumes n =>
    obtain ⟨halted, h⟩ | ⟨-, h⟩ := resumeCommand_cases n s <;> rw [h]
    · exact law.of_kept (setAperture_ranges rfl (by simp [halted]))
    · exact law.of_kept (refuseCommand_ranges n s)
  | describes n w v =>
    simp only [writeDescriptor]
    split
    · rename_i closed
      have closed' : ((s.aperture n).store w v).state = .closed := by cases w <;> exact closed
      refine law.of_kept fun j => ?_
      rw [State.aperture_setAperture]
      split
      · exact fun live => absurd closed' live
      · exact fun live => ⟨live, rfl⟩
    · exact law.of_kept (.of_same (by simp))
  | sweeps m live =>
    exact law.of_kept ((RangesKept.of_same (by simp)).trans
      (foldl_retire_keeps (P := RangesKept (sweep m s)) (fun u n h => h.trans (retire_ranges n u)) _ _ (.refl _)))
  | globalEnable | clears | enables | timeout | region | stages | pops => exact law.of_kept (.of_same fun _ => rfl)
  | _ => exact law.of_kept (.of_same (by simp))

/-! ## The resets -/

theorem aperturesAfterReset_get (pass : Bool) (n : ApertureId) :
    (aperturesAfterReset pass)[n] = if pass = true ∧ n = 0 then Aperture.strapOpened else Aperture.reset := by
  revert n; cases pass <;> decide

/-- After a reset at most A0 is not Closed, with its strap descriptor, so that no two apertures overlap (R26). -/
theorem ApertureLaw.of_reset {s : State} {pass : Bool} (reset : s.apertures = aperturesAfterReset pass) : ApertureLaw s := by
  have only (n : ApertureId) (live : (s.aperture n).state ≠ .closed) : n = 0 ∧ s.aperture n = Aperture.strapOpened := by
    rw [State.aperture, reset, aperturesAfterReset_get] at live ⊢
    split at live
    · rename_i h; exact ⟨h.2, if_pos h⟩
    · exact absurd rfl live
  constructor
  · intro n live
    rw [(only n live).2]
    exact ⟨by decide, by decide⟩
  · intro n o other live live'
    exact absurd ((only n live).1.trans (only o live').1.symm) other

theorem ResetAct.keeps_apertureLaw {s t : State} (act : ResetAct s t) : ApertureLaw t := by
  cases act with
  | softReset => exact .of_reset (pass := s.passLatched) (by simp [Machine.softReset])
  | holds => exact .of_reset (pass := false) rfl
  | releases pass => exact .of_reset (pass := pass) (by simp [release])

/-- Settles O8: only an Open that passes its checks takes an aperture out of Closed, and only a Closed one is described. -/
theorem apertureRangesStayApart : Obligations.ApertureRangesStayApart := fun _ _ law done =>
  step_keeps done law (fun _ _ h => ⟨h.legal, h.apart⟩) (fun _ _ act h => h.of_kept act.ranges)
    (fun _ _ act h => act.keeps_apertureLaw h) fun _ _ act _ => act.keeps_apertureLaw

end Sys2Proof.Machine

/-! PROOFS. What happens while RESET# is low, the law of the values held, and the region ends (sections 1.7, 3.3, 10.4). -/

namespace Sys2Proof.Machine

/-! ## What a held part does -/

/-- A port's values while RESET# is low: the taken order goes on, and a request presented stays. -/
theorem hold_port (s : State) (m : Master) : (hold s).port m = (s.port m).held :=
  getElem_mapSix _ _ m

/-- While RESET# is low a command that is not one of the reset pin and presents no request changes nothing. -/
theorem exec_still_of_low {c : Instr} {s : State} (low : s.resetLow = true) (notPin : c ≠ .pinReset)
    (notRelease : ∀ p o, c ≠ .resetRelease p o) (notArrival : ∀ m r, c ≠ .arrival m r)
    (lanes : ∀ w v, c ≠ .narrowWrite w 0 v) : exec c s = .next s := by
  have still (x : State) : (.next (if s.resetLow then s else x) : Result) = .next s := by rw [if_pos low]
  cases c with
  | arrival m r => exact absurd rfl (notArrival m r)
  | pinReset => exact absurd rfl notPin
  | resetRelease p o => exact absurd rfl (notRelease p o)
  | memoryCompletion r => simp [exec, execMemoryCompletion, low]
  | narrowWrite w l v =>
    have some : l ≠ 0 := fun none => lanes w v (by rw [none])
    simp only [exec, execNarrowWrite, some, if_false]
    exact still _
  | _ => exact still _

/-- What happens while RESET# is low: RESET# stays low or is released, a request waits on its channel, and nothing else. -/
theorem exec_of_low {c : Instr} {s t : State} (low : s.resetLow = true) (done : exec c s = .next t) :
    t = s ∨ (∃ m r, c = .arrival m r ∧ t = s.setPort m { s.port m with pendingArrival := some r }) ∨ t = hold s ∨
    ∃ pass order, t = (order ++ allMasters).foldl judgeWaiting (release pass s) := by
  have still (done' : exec c s = .next s) : t = s := by rw [done] at done'; injection done'
  cases c with
  | arrival m r =>
    simp only [exec, execArrival, low, if_true] at done
    split at done
    · cases done
    split at done
    · cases done
    · cases done; exact .inr (.inl ⟨m, r, rfl, rfl⟩)
  | narrowWrite w lanes v =>
    by_cases none : lanes = 0
    · subst none; cases done
    · exact .inl (still (exec_still_of_low low (by simp) (by simp) (by simp) fun _ _ h => none (by injection h)))
  | pinReset => cases done; exact .inr (.inr (.inl rfl))
  | resetRelease pass order =>
    simp only [exec, execResetRelease, low, if_true] at done
    cases done; exact .inr (.inr (.inr ⟨pass, order, rfl⟩))
  | _ => exact .inl (still (exec_still_of_low low (by simp) (by simp) (by simp) (by simp)))

/-! ## RESET# -/

theorem HostAct.keeps_resetLow {b b' : Bool} {s t : State} (act : HostAct b b' s t) : t.resetLow = s.resetLow := by
  cases act with
  | opens n => obtain ⟨-, -, h⟩ | ⟨-, -, h⟩ | ⟨-, h⟩ := openCommand_cases n s <;> simp [h]
  | closes n =>
    exact closeCommand_keeps (P := fun u => u.resetLow = s.resetLow) (by simp) (by simp) (by simp)
      (by simp +contextual) (by simp)
  | halts n => obtain ⟨-, h⟩ | ⟨-, h⟩ := haltCommand_cases n s <;> simp [h]
  | resumes n => obtain ⟨-, h⟩ | ⟨-, h⟩ := resumeCommand_cases n s <;> simp [h]
  | describes n w v => unfold writeDescriptor; dsimp only; split <;> simp
  | sweeps m => exact foldl_retire_keeps (P := fun u => u.resetLow = s.resetLow) (by simp) _ _ (by simp)
  | globalEnable | clears | enables | timeout | region | stages | pops => rfl
  | _ => simp

theorem softReset_resetLow (s : State) : (softReset s).resetLow = s.resetLow := by simp [softReset]

theorem judgeWaiting_resetLow (s : State) (m : Master) : (judgeWaiting s m).resetLow = s.resetLow := by
  unfold judgeWaiting
  split
  · rfl
  · exact (judgeArrival_acts m _ _).untouched.resetLow

theorem foldl_judgeWaiting_resetLow (l : List Master) (s : State) : (l.foldl judgeWaiting s).resetLow = s.resetLow := by
  induction l generalizing s with
  | nil => rfl
  | cons m l ih => exact (ih _).trans (judgeWaiting_resetLow s m)

theorem release_resetLow (pass : Bool) (s : State) : (release pass s).resetLow = false := by simp [release]

/-- Only the reset pin takes RESET# low. -/
theorem exec_of_high {c : Instr} {s t : State} (high : s.resetLow = false) (done : exec c s = .next t) :
    t.resetLow = false ∨ t = hold s := by
  have soft {w : WordIndex} {v : Word} (control : w = 2) (bit : v.getLsbD 1 = true)
      (done : whenReleased s (fullWrite w v) = .next t) : t.resetLow = false := by
    rw [whenReleased_of_high high, fullWrite_of_softReset (wordAt_eq_globalControl.2 control) bit] at done
    cases done; exact (softReset_resetLow s).trans high
  cases ordinary : resetsPart c with
  | false =>
    exact .inl ((exec_hostRuns (clearing := true) ordinary (fun _ => rfl) done).keep (P := fun u => u.resetLow = false) high
      (fun _ _ act h => act.untouched.resetLow.trans h) fun _ _ act h => act.keeps_resetLow.trans h)
  | true =>
    cases c with
    | softReset =>
      simp only [exec, execSoftReset, whenReleased_of_high high] at done
      cases done; exact .inl ((softReset_resetLow s).trans high)
    | pinReset => cases done; exact .inr rfl
    | resetRelease pass order =>
      simp only [exec, execResetRelease, high] at done
      cases done; exact .inl high
    | hostWrite w v =>
      simp only [resetsPart, Bool.and_eq_true, decide_eq_true_eq] at ordinary
      exact .inl (soft ordinary.1 ordinary.2 done)
    | narrowWrite w lanes v =>
      simp only [resetsPart, Bool.and_eq_true, decide_eq_true_eq] at ordinary
      obtain ⟨⟨rfl, control⟩, bit⟩ := ordinary
      exact .inl (soft control bit (by simpa [exec, execNarrowWrite] using done))
    | _ => cases ordinary

/-! ## The values held -/

theorem mapSix_held_held (v : Vector Port 6) : mapSix Port.held (mapSix Port.held v) = mapSix Port.held v :=
  Vector.ext fun i h => by
    rw [show (mapSix Port.held (mapSix Port.held v))[i] = _ from getElem_mapSix _ _ ⟨i, h⟩]
    rw [show (mapSix Port.held v)[i] = _ from getElem_mapSix _ _ ⟨i, h⟩, getElem_mapSix]
    rfl

theorem hold_hold (s : State) : hold (hold s) = hold s := by
  simp only [hold, mapSix_held_held]

/-- A request on its channel does not disturb the values held. -/
theorem mapSix_held_set (v : Vector Port 6) (m : Master) (x : Option Request) :
    mapSix Port.held (v.set m { v[m] with pendingArrival := x }) =
      (mapSix Port.held v).set m { (mapSix Port.held v)[m] with pendingArrival := x } :=
  Vector.ext fun i h => by
    rw [show (mapSix Port.held _)[i] = _ from getElem_mapSix _ _ ⟨i, h⟩, Vector.getElem_set, getElem_mapSix,
      show (mapSix Port.held v)[i] = _ from getElem_mapSix _ _ ⟨i, h⟩]
    rw [Fin.getElem_fin, Vector.getElem_set]
    split <;> rfl

theorem hold_present (s : State) (m : Master) (x : Option Request) (held : hold s = s) :
    hold (s.setPort m { s.port m with pendingArrival := x }) = s.setPort m { s.port m with pendingArrival := x } := by
  have ports : mapSix Port.held s.ports = s.ports := congrArg State.ports held
  have commutes : hold (s.setPort m { s.port m with pendingArrival := x }) =
      (hold s).setPort m { (hold s).port m with pendingArrival := x } := by
    simp only [hold, State.setPort, State.port, mapSix_held_set]
  rw [commutes, held]

theorem HeldLaw.exec {c : Instr} {s t : State} (law : HeldLaw s) (done : exec c s = .next t) : HeldLaw t := by
  cases low : s.resetLow with
  | false =>
    obtain high | rfl := exec_of_high low done
    · exact fun h => absurd (high.symm.trans h) (by simp)
    · exact fun _ => hold_hold s
  | true =>
    obtain rfl | ⟨m, r, -, rfl⟩ | rfl | ⟨pass, order, rfl⟩ := exec_of_low low done
    · exact law
    · exact fun _ => hold_present s m _ (law low)
    · exact fun _ => hold_hold s
    · intro h
      rw [foldl_judgeWaiting_resetLow, release_resetLow] at h
      cases h

/-- The queue of commands is the model's own, and a reset leaves it. -/
theorem HeldLaw.pending {s : State} (law : HeldLaw s) (l : List Instr) : HeldLaw { s with pending := l } := fun low =>
  congrArg (fun u => { u with pending := l }) (law low)

/-! ## The region ends -/

/-- A region word stores an end frame of at most 16,777,216 (R57, R179). -/
theorem Region.ofWord_endFrame (v : Word) : (Region.ofWord v).endFrame.toNat ≤ Config.frames := by
  simp only [Region.ofWord]
  split
  · decide
  · rename_i small
    exact BitVec.le_def.1 (BitVec.not_lt.1 small)

theorem RegionLaw.of_regions {s t : State} (law : RegionLaw s) (same : t.regions = s.regions) : RegionLaw t := by
  intro i
  rw [same]
  exact law i

theorem RegionLaw.of_reset {s : State} (reset : s.regions = regionsReset) : RegionLaw s := by
  intro i
  rw [reset]
  revert i
  decide

theorem HostAct.keeps_regionLaw {b b' : Bool} {s t : State} (act : HostAct b b' s t) (law : RegionLaw s) : RegionLaw t := by
  cases act with
  | opens n => obtain ⟨-, -, h⟩ | ⟨-, -, h⟩ | ⟨-, h⟩ := openCommand_cases n s <;> exact law.of_regions (by simp [h])
  | closes n =>
    exact law.of_regions (closeCommand_keeps (P := fun u => u.regions = s.regions) (by simp) (by simp) (by simp)
      (by simp +contextual) (by simp))
  | halts n => obtain ⟨-, h⟩ | ⟨-, h⟩ := haltCommand_cases n s <;> exact law.of_regions (by simp [h])
  | resumes n => obtain ⟨-, h⟩ | ⟨-, h⟩ := resumeCommand_cases n s <;> exact law.of_regions (by simp [h])
  | describes n w v => unfold writeDescriptor; dsimp only; split <;> exact law.of_regions (by simp)
  | sweeps m => exact law.of_regions (foldl_retire_keeps (P := fun u => u.regions = s.regions) (by simp) _ _ (by simp))
  | region j v =>
    intro i
    simp only [writeRegion, Fin.getElem_fin, Vector.getElem_set]
    split
    · exact Region.ofWord_endFrame v
    · exact law i
  | globalEnable | clears | enables | timeout | stages | pops => exact law.of_regions rfl
  | _ => exact law.of_regions (by simp)

theorem ResetAct.keeps_regionLaw {s t : State} (act : ResetAct s t) : RegionLaw t := by
  cases act with
  | softReset => exact .of_reset (by simp [Machine.softReset])
  | holds => exact .of_reset rfl
  | releases pass => exact .of_reset (by simp [release, hold, State.reset])

/-- Settles O16: a held part changes only by its release and by the requests on its channels; a region write clamps the end. -/
theorem resetValuesHoldWhileResetIsLow : Obligations.ResetValuesHoldWhileResetIsLow := by
  intro s t done
  constructor
  · intro law
    unfold step at done
    split at done
    · cases done; exact law
    · exact (law.pending _).exec done
  · exact fun law => step_keeps done law (fun _ _ h => h) (fun _ _ act h => h.of_regions act.untouched.regions)
      (fun _ _ act h => act.keeps_regionLaw h) fun _ _ act _ => act.keeps_regionLaw

/-- Settles O59: a held part answers no command but the release, and a presented request stays on its channel. -/
theorem nothingHappensWhileResetIsLow : Obligations.NothingHappensWhileResetIsLow := by
  intro s
  refine ⟨⟨hold s, rfl, rfl, rfl, hold_port s⟩, fun low => ⟨fun w lanes => ?_, ?_,
    fun m r => ⟨fun short long free => ?_, fun t done => ?_⟩,
    fun c => exec_still_of_low low⟩⟩
  · simp [State.hostRead, low]
  · simp [State.intAsserted, low]
  · simp [exec, execArrival, Request.wellFormed, short, long, low, free]
  · simp only [exec, execArrival, low, if_true] at done
    split at done
    · cases done
    split at done
    · cases done
    · cases done; rfl

end Sys2Proof.Machine

/-! PROOFS. A Resetting port's master has nothing but issued accesses in the part (section 2.6), act by act. -/

namespace Sys2Proof.Machine

/-! ## The ports after the operations -/

/-- Under the law an entry of the read list, an entry that is not issued, or a completion shows that its port is not Resetting. -/
theorem SweptLaw.live_of_read {s : State} (law : SweptLaw s) {m : Master} {e : ReadEntry} (mem : e ∈ (s.queue m).reads) :
    (s.port m).state ≠ .resetting := by
  intro resetting
  obtain ⟨-, none, -, -⟩ := law m resetting
  simp [none] at mem

theorem SweptLaw.live_of_write {s : State} (law : SweptLaw s) {m : Master} {e : WriteEntry} (mem : e ∈ (s.queue m).writes)
    (unissued : e.isIssued = false) : (s.port m).state ≠ .resetting := by
  intro resetting
  obtain ⟨-, -, issued, -⟩ := law m resetting
  simp [issued e mem] at unissued

theorem SweptLaw.live_of_completion {s : State} (law : SweptLaw s) {m : Master} {c : Completion}
    (mem : c ∈ (s.port m).completions) : (s.port m).state ≠ .resetting := by
  intro resetting
  obtain ⟨-, -, -, none⟩ := law m resetting
  simp [none] at mem

theorem SweptLaw.live_of_slot {s : State} (law : SweptLaw s) {k : ParkSlot} (mem : k ∈ s.park) :
    (s.port k.master).state ≠ .resetting := by
  intro resetting
  obtain ⟨slots, -, -, -⟩ := law k.master resetting
  exact slots k mem rfl

/-- A completion that becomes ready does not disturb the law. -/
theorem SweptLaw.pushCompletion {s : State} (law : SweptLaw s) (m : Master) (c : Completion) :
    SweptLaw (pushCompletion m c s) := by
  by_cases resetting : (s.port m).state = .resetting
  · rwa [pushCompletion_of_resetting resetting]
  · exact law.keep_of_live resetting (by simp) (fun j ne => by simp [pushCompletion_port, ne]) (by simp) (by simp +contextual)

theorem SweptLaw.retire {s : State} (law : SweptLaw s) (n : ApertureId) : SweptLaw (retire n s) :=
  law.of_same (by simp) (by simp) (by simp)

theorem SweptLaw.report {s : State} (law : SweptLaw s) (r : FaultRecord) : SweptLaw (report r s) :=
  law.of_same (by simp) (by simp) (by simp)

theorem SweptLaw.readDone {s : State} (law : SweptLaw s) (r : ItemRecord) (res : BusResult) : SweptLaw (readDone r res s) := by
  cases res with
  | okay beats => exact law.pushCompletion _ _
  | error => exact (law.pushCompletion _ _).report _

/-- The head of a write-order queue leaves it. -/
theorem SweptLaw.dropWrite {s : State} (law : SweptLaw s) {m : Master} {e : WriteEntry} {rest : List WriteEntry}
    (head : (s.queue m).writes = e :: rest) : SweptLaw (s.setQueue m { s.queue m with writes := rest }) := by
  refine law.keep (fun j resetting => ⟨resetting, rfl⟩) (fun j _ k hk master => ⟨k, hk, master⟩) (fun j _ => ?_)
    fun j _ x hx => ?_
  · rw [State.queue_setQueue]
    split
    · rename_i same; rw [same]
    · rfl
  · rw [State.queue_setQueue] at hx
    split at hx
    · rename_i same; rw [same, head]; exact List.mem_cons_of_mem _ hx
    · exact hx

theorem SweptLaw.writeDone {s : State} (law : SweptLaw s) (r : ItemRecord) (res : BusResult) : SweptLaw (writeDone r res s) := by
  simp only [Machine.writeDone]
  split
  · exact law
  · rename_i e rest head
    have dropped := law.dropWrite head
    split
    · split
      · exact dropped.pushCompletion _ _
      · exact dropped
      · exact (dropped.pushCompletion _ _).report _
      · exact dropped.report _
    · exact law

/-- The end of a Port Reset takes the port out of the law. -/
theorem SweptLaw.portResetTest {s : State} (law : SweptLaw s) (m : Master) : SweptLaw (portResetTest m s) := by
  have out (j : Master) : ((endPortReset m s).port j).state = .resetting →
      (s.port j).state = .resetting ∧ ((endPortReset m s).port j).completions = (s.port j).completions := by
    simp only [endPortReset, setCause_accessors, State.port_setPort]
    split
    · intro resetting
      dsimp only at resetting
      split at resetting <;> cases resetting
    · exact fun resetting => ⟨resetting, rfl⟩
  simp only [Machine.portResetTest]
  split
  · exact law.keep out (fun j _ k hk master => ⟨k, hk, master⟩) (fun _ _ => rfl) fun _ _ _ he => he
  · exact law

theorem WriteEntry.isIssued_mark (e : WriteEntry) :
    (if e.isItem then { e with counted := true } else e : WriteEntry).isIssued = e.isIssued := by
  split <;> rfl

theorem markItems_queue (s : State) (m : Master) : (markItems s).queue m = (s.queue m).mark := getElem_mapSix _ _ m

theorem SweptLaw.markItems {s : State} (law : SweptLaw s) : SweptLaw (markItems s) := by
  intro m resetting
  obtain ⟨slots, noReads, issued, none⟩ := law m resetting
  refine ⟨slots, ?_, fun e he => ?_, none⟩
  · rw [markItems_queue]
    simp [IssueQueues.mark, noReads]
  · rw [markItems_queue] at he
    obtain ⟨x, hx, rfl⟩ := List.mem_map.1 he
    exact (WriteEntry.isIssued_mark x).trans (issued x hx)

theorem grantRead_queue (m j : Master) (e : ReadEntry) (s : State) : (grantRead m e s).queue j =
    if j = m then { s.queue m with reads := (s.queue m).reads.erase e } else s.queue j :=
  State.queue_setQueue s m j _

theorem grantWrite_queue (m j : Master) (e : WriteEntry) (s : State) : (grantWrite m e s).queue j =
    if j = m then { s.queue m with writes := updateFirst (!·.isIssued) WriteEntry.issue (s.queue m).writes }
    else s.queue j :=
  State.queue_setQueue s m j _

theorem Act.keeps_sweptLaw {s t : State} (act : Act s t) (law : SweptLaw s) : SweptLaw t := by
  cases act with
  | moves reach => exact reach.keep law fun _ _ move => move.keeps_sweptLaw law
  | marks => exact law.markItems
  | read r res rest => exact ((law.of_same (t := { s with inFlight := rest }) rfl rfl rfl).readDone r res).retire _
  | write r res rest => exact ((law.of_same (t := { s with inFlight := rest }) rfl rfl rfl).writeDone r res).retire _
  | ends m => exact law.portResetTest m
  | accepts m c rest offered =>
    exact law.keep_of_live (m := m) (law.live_of_completion (by rw [offered]; exact List.mem_cons_self))
      (by simp [Port.setTag]) (by simp +contextual) (fun _ _ => rfl) fun _ hk _ => hk
  | grantWalk c w t room walks => 
    simp only [Machine.grantWalk, walks]
    exact law.of_same rfl rfl rfl
  | grantRead m e room mem =>
    exact law.keep_of_live (m := m) (law.live_of_read mem) rfl (fun _ _ => rfl)
      (fun j ne => by rw [grantRead_queue, if_neg ne]) fun _ hk _ => hk
  | grantWrite m e room eligible =>
    obtain ⟨⟨p, translated⟩, front, back, split, -⟩ := (IssueQueues.eligibleWrite_eq_some _ _).1 eligible
    refine law.keep_of_live (m := m) ?_ rfl (fun _ _ => rfl) (fun j ne => by rw [grantWrite_queue, if_neg ne]) fun _ hk _ => hk
    exact law.live_of_write (e := e) (by simp [split]) (by simp [WriteEntry.isIssued, translated])
  | fences | drops | walkRead | invalidates | emits => exact law.of_same rfl rfl rfl

/-! ## The host -/

theorem foldl_retire_queue (l : List ApertureId) (s : State) (m : Master) :
    (l.foldl (fun t n => Machine.retire n t) s).queue m = s.queue m :=
  foldl_retire_keeps (P := fun u => u.queue m = s.queue m) (by simp) l s rfl

theorem foldl_retire_port (l : List ApertureId) (s : State) (m : Master) :
    (l.foldl (fun t n => Machine.retire n t) s).port m = s.port m :=
  foldl_retire_keeps (P := fun u => u.port m = s.port m) (by simp) l s rfl

theorem foldl_retire_park (l : List ApertureId) (s : State) : (l.foldl (fun t n => Machine.retire n t) s).park = s.park :=
  foldl_retire_keeps (P := fun u => u.park = s.park) (by simp) l s rfl

theorem sweep_queue (m j : Master) (s : State) : (sweep m s).queue j =
    if j = m then { reads := [], writes := (s.queue m).writes.filter (·.isIssued) } else s.queue j := by
  simp only [sweep, State.queue_setPort, State.queue_setQueue]
  rfl

theorem sweep_port (m j : Master) (s : State) : (sweep m s).port j =
    if j = m then { s.port m with completions := [], state := .resetting } else s.port j := by
  simp only [sweep, State.port_setPort, State.port_setQueue]
  rfl

theorem sweep_park (m : Master) (s : State) : (sweep m s).park = s.park.filter (·.master != m) := rfl

/-- The sweep recalls everything of its master that is not issued, and touches no other master's work. -/
theorem SweptLaw.sweep {s : State} (law : SweptLaw s) (m : Master) : SweptLaw (sweep m s) := by
  intro j resetting
  by_cases own : j = m
  · subst own
    refine ⟨by simp [sweep_park], by simp [sweep_queue], fun e he => ?_, by simp [sweep_port]⟩
    rw [sweep_queue, if_pos rfl] at he
    exact (List.mem_filter.1 he).2
  · rw [sweep_port, if_neg own] at resetting ⊢
    rw [sweep_queue, if_neg own]
    obtain ⟨slots, noReads, issued, none⟩ := law j resetting
    exact ⟨fun k hk => slots k (List.mem_filter.1 hk).1, noReads, issued, none⟩

theorem SweptLaw.foldl_retire {s : State} (law : SweptLaw s) (l : List ApertureId) :
    SweptLaw (l.foldl (fun t n => Machine.retire n t) s) :=
  foldl_retire_keeps (fun _ n h => h.retire n) l s law

/-- A port is written in a field that the law does not look at. -/
theorem SweptLaw.setPort {s : State} (law : SweptLaw s) {m : Master} {p : Port}
    (state : p.state = .resetting → (s.port m).state = .resetting) (completions : p.completions = (s.port m).completions) :
    SweptLaw (s.setPort m p) := by
  refine law.keep (fun j resetting => ?_) (fun _ _ k hk master => ⟨k, hk, master⟩) (fun _ _ => rfl) fun _ _ _ he => he
  rw [State.port_setPort] at resetting ⊢
  split at resetting
  · rename_i own; rw [if_pos own, own]; exact ⟨state resetting, completions⟩
  · rename_i other; rw [if_neg other]; exact ⟨resetting, rfl⟩

theorem abortSlot_queue (k : ParkSlot) (s : State) (j : Master) : (abortSlot s k).queue j =
    if j = k.master ∧ k.kind = .write then { s.queue j with writes := (s.queue j).writes.eraseP (·.isHole k.tag) }
    else s.queue j := by
  simp [abortSlot, dropParkedWrite_queue]

theorem abortSlot_port (k : ParkSlot) (s : State) (j : Master) :
    (abortSlot s k).port j = (pushCompletion k.master ⟨k.tag, .aborted⟩ s).port j := by
  simp [abortSlot]

theorem SweptLaw.abortSlot {s : State} (law : SweptLaw s) (k : ParkSlot) : SweptLaw (abortSlot s k) := by
  refine (law.pushCompletion k.master ⟨k.tag, .aborted⟩).keep (fun m resetting => ?_) (fun m _ x hx master => ?_)
    (fun m _ => ?_) fun m _ e he => ?_
  · rw [abortSlot_port] at resetting ⊢
    exact ⟨resetting, rfl⟩
  · rw [abortSlot_park] at hx
    exact ⟨x, by simpa using (List.mem_filter.1 hx).1, master⟩
  · simp only [abortSlot_queue, pushCompletion_accessors]
    split <;> rfl
  · rw [abortSlot_queue] at he
    simp only [pushCompletion_accessors]
    split at he
    · exact List.mem_of_mem_eraseP he
    · exact he

theorem HostAct.keeps_sweptLaw {b b' : Bool} {s t : State} (act : HostAct b b' s t) (law : SweptLaw s) : SweptLaw t := by
  have same {u : State} (ports : u.ports = s.ports) (park : u.park = s.park) (queues : u.queues = s.queues) : SweptLaw u :=
    law.of_same ports park queues
  cases act with
  | opens n => obtain ⟨-, -, h⟩ | ⟨-, -, h⟩ | ⟨-, h⟩ := openCommand_cases n s <;> rw [h] <;> exact same rfl rfl rfl
  | closes n =>
    exact closeCommand_keeps (P := SweptLaw) (same rfl rfl rfl) (fun _ _ => same rfl rfl rfl) (fun _ => same rfl rfl rfl)
      (fun u k h _ _ => h.abortSlot k) fun u h => h.of_same (by simp) (by simp) (by simp)
  | halts n => obtain ⟨-, h⟩ | ⟨-, h⟩ := haltCommand_cases n s <;> rw [h] <;> exact same rfl rfl rfl
  | resumes n => obtain ⟨-, h⟩ | ⟨-, h⟩ := resumeCommand_cases n s <;> rw [h] <;> exact same rfl rfl rfl
  | describes n w v => unfold writeDescriptor; dsimp only; split <;> exact same rfl rfl rfl
  | enablesPort m e =>
    refine law.setPort (fun resetting => ?_) rfl
    by_contra live
    rw [if_neg live] at resetting
    split at resetting <;> cases resetting
  | sweeps m live => exact (law.sweep m).foldl_retire _
  | presents m x => exact law.setPort id rfl
  | _ => exact same rfl rfl rfl

/-- A port after a reset: with its own numbering, and while RESET# is low with the request presented (R28, R46, R47). -/
theorem ResetAct.port_eq {s t : State} (act : ResetAct s t) (m : Master) :
    t.port m = (s.port m).afterReset ∨ t.port m = (s.port m).held := by
  cases act with
  | softReset =>
    simp only [State.port, Machine.softReset, indicateAll_frame]
    exact .inl (getElem_mapSix Port.afterReset s.ports m)
  | holds => exact .inr (hold_port s m)
  | releases pass =>
    have held : (hold s).ports[m] = (s.port m).held := hold_port s m
    exact .inr (by simpa [release, State.port] using held)

/-- After a reset no port is Resetting (R28, R46). -/
theorem ResetAct.port_state {s t : State} (act : ResetAct s t) (m : Master) : (t.port m).state = .active := by
  obtain h | h := act.port_eq m <;> rw [h] <;> rfl

theorem ResetAct.keeps_sweptLaw {s t : State} (act : ResetAct s t) : SweptLaw t := by
  intro m resetting
  rw [act.port_state] at resetting
  cases resetting

/-- Settles O12: only the sweep makes a port Resetting, and everything else gives its master nothing new. -/
theorem resettingPortsHoldOnlyIssuedWork : Obligations.ResettingPortsHoldOnlyIssuedWork := fun _ _ law done =>
  step_keeps done law (fun _ _ h => h) (fun _ _ act => act.keeps_sweptLaw) (fun _ _ act => act.keeps_sweptLaw)
    fun _ _ act _ => act.keeps_sweptLaw

end Sys2Proof.Machine

/-! PROOFS. The laws that hold between events but not inside them: a principle that takes each event as a whole, and with it the
laws of the port states and of the fence. -/

namespace Sys2Proof.Machine

/-! ## Events as a whole -/

/-- A property is kept by the events of the part, each taken as a whole, and by the acts of the host that recall nothing, and it
holds after a reset. -/
structure KeptByEvents (P : State → Prop) : Prop where
  arrival : ∀ s m r, P s → P (judgeArrival m r s)
  accept : ∀ s m c rest, (s.port m).completions = c :: rest → P s →
    P (emit (.delivered m c) (s.setPort m { (s.port m).setTag c.tag none with completions := rest }))
  grant : ∀ s, P s → P (takeGrant s)
  completion : ∀ s x rest res, s.inFlight = x :: rest → P s → P (recordDone x res { s with inFlight := rest })
  walk : ∀ s c w r, s.context c = some w → w.read = .none → P s → P (completeWalk c r s)
  takeover : ∀ s c, s.context c = none → P s → P (takeover s.park.length c s)
  tick : ∀ s, P s → P (takeTick s)
  expiry : ∀ s k, k ∈ s.park → P s → P (expireSlot s k)
  drain : ∀ s n, P s → P (drainTest n s)
  ends : ∀ s m, P s → P (portResetTest m s)
  head : ∀ s k, P s → P (handleHeadOfKind k s)
  fence : ∀ s, P s → P (fenceTest s)
  push : ∀ s, P s → P (pushStaged s)
  portReset : ∀ s m, P s → P (resetPort m s)
  host : ∀ s t, HostAct true false s t → P s → P t
  reset : ∀ s t, ResetAct s t → P s → P t

section
variable {P : State → Prop} (kept : KeptByEvents P)
include kept

theorem KeptByEvents.writeCommand (n : ApertureId) (v : Word) (s : State) (holds : P s) : P (writeCommand n v s) := by
  unfold Machine.writeCommand
  split; · exact kept.host _ _ (.opens s n) holds
  split; · exact kept.host _ _ (.closes s n) holds
  split; · exact kept.host _ _ (.halts s n) holds
  split; · exact kept.host _ _ (.resumes s n) holds
  exact kept.host _ _ (.errs s _ _) holds

theorem KeptByEvents.fullWrite (w : WordIndex) (v : Word) (s : State) (holds : P s) : P (fullWrite w v s) := by
  unfold Machine.fullWrite
  split
  · unfold writeGlobalControl
    split
    · exact kept.reset _ _ (.softReset s) holds
    · exact kept.host _ _ (.globalEnable s _) holds
  · exact kept.host _ _ (.clears s v rfl) holds
  · exact kept.host _ _ (.enables s v) holds
  · exact kept.host _ _ (.timeout s v) holds
  · exact kept.host _ _ (.region s _ v) holds
  · rename_i m _
    have stored := kept.host _ _ (.enablesPort s m (v.getLsbD 0)) holds
    unfold writePortControl
    split
    · exact kept.portReset _ _ stored
    · exact stored
  · exact kept.host _ _ (.stages s _) holds
  · exact kept.push s holds
  · exact kept.host _ _ (.pops s) holds
  · exact kept.host _ _ (.describes s _ _ v) holds
  · exact kept.writeCommand _ v s holds
  all_goals exact holds

theorem KeptByEvents.judgeWaiting (l : List Master) (s : State) (holds : P s) : P (l.foldl judgeWaiting s) := by
  induction l generalizing s with
  | nil => exact holds
  | cons m l ih =>
    refine ih _ ?_
    unfold Machine.judgeWaiting
    split
    · exact holds
    · exact kept.arrival _ m _ (kept.host _ _ (.presents s m none) holds)

/-- Such a property is kept by every command. -/
theorem KeptByEvents.exec {c : Instr} {s t : State} (done : exec c s = .next t) (holds : P s) : P t := by
  have effect {f : State → State} (done : whenReleased s f = .next t) (keeps : P (f s)) : P t :=
    keeps_of_whenReleased done holds keeps
  have host {f : State → State} (done : whenReleased s f = .next t) (act : HostAct true false s (f s)) : P t :=
    effect done (kept.host _ _ act holds)
  cases c with
  | arrival m r =>
    simp only [Machine.exec, execArrival] at done
    split at done
    · cases done
    split at done
    · split at done
      · cases done
      · cases done; exact kept.host _ _ (.presents s m (some r)) holds
    · cases done; exact kept.arrival s m r holds
  | acceptance m =>
    dsimp only [Machine.exec, execAcceptance] at done
    refine effect done ?_
    split
    · exact holds
    · exact kept.accept s m _ _ (by assumption) holds
  | grant => exact effect done (kept.grant s holds)
  | memoryCompletion r =>
    simp only [Machine.exec, execMemoryCompletion] at done
    split at done
    · cases done; exact holds
    · split at done
      · cases done
      · cases done; exact kept.completion s _ _ r (by assumption) holds
  | walkCompletion c r =>
    dsimp only [Machine.exec, execWalkCompletion] at done
    refine effect done ?_
    split
    · exact holds
    · split
      · exact kept.walk s c _ r (by assumption) (by assumption) holds
      · exact holds
  | takeover c =>
    refine effect done ?_
    split
    · exact kept.takeover s c (by simp_all) holds
    · exact holds
  | tick => exact effect done (kept.tick s holds)
  | expiry k =>
    dsimp only [Machine.exec, execExpiry] at done
    refine effect done ?_
    split
    · exact kept.expiry s _ (List.mem_of_find?_eq_some (by assumption)) holds
    · exact holds
  | openAperture n => exact host done (.opens s n)
  | closeAperture n => exact host done (.closes s n)
  | haltAperture n => exact host done (.halts s n)
  | resumeAperture n => exact host done (.resumes s n)
  | badCommand n v => exact effect done (kept.writeCommand n v s holds)
  | endOfDrain n => exact effect done (kept.drain s n holds)
  | descriptorWrite n w v => exact host done (.describes s n w v)
  | portEnableWrite m e => exact host done (.enablesPort s m e)
  | portReset m e =>
    dsimp only [Machine.exec, execPortReset] at done
    exact effect done (kept.portReset _ m (kept.host _ _ (.enablesPort s m e) holds))
  | endOfPortReset m => exact effect done (kept.ends s m holds)
  | globalEnable e =>
    dsimp only [Machine.exec, execGlobalEnable] at done
    exact host done (.globalEnable s e)
  | softReset => exact effect done (kept.reset _ _ (.softReset s) holds)
  | causeClear v => exact host done (.clears s v rfl)
  | causeEnableWrite v => exact host done (.enables s v)
  | parkTimeoutWrite v => exact host done (.timeout s v)
  | regionWrite i v => exact host done (.region s i v)
  | stagingWrite w v =>
    dsimp only [Machine.exec, execStagingWrite] at done
    exact host done (.stages s _)
  | push v => exact effect done (kept.push s holds)
  | invalidatePage | invalidateRange | invalidateDirectory | invalidateAperture | fence =>
    exact effect done (kept.head s _ holds)
  | fenceCompletion => exact effect done (kept.fence s holds)
  | pop v => exact host done (.pops s)
  | narrowWrite w lanes v =>
    simp only [Machine.exec, execNarrowWrite] at done
    split at done
    · cases done
    · refine effect done ?_
      split
      · exact kept.fullWrite w v s holds
      · exact kept.host _ _ (.errs s _ _) holds
  | hostWrite w v => exact effect done (kept.fullWrite w v s holds)
  | pinReset => cases done; exact kept.reset _ _ (.holds s) holds
  | resetRelease pass order =>
    simp only [Machine.exec, execResetRelease] at done
    cases done
    split
    · exact kept.judgeWaiting _ _ (kept.reset _ _ (.releases s pass) holds)
    · exact holds

/-- And by every step, where it does not look at the queue of commands. -/
theorem KeptByEvents.step {s t : State} (done : step s = .next t) (blind : ∀ s l, P s → P { s with pending := l })
    (holds : P s) : P t := by
  unfold Machine.step at done
  split at done
  · cases done; exact holds
  · exact kept.exec done (blind s _ holds)

end


/-! ## The port states -/

/-- A port keeps its state and its enable. -/
def SamePort (m : Master) (s t : State) : Prop := (t.port m).state = (s.port m).state ∧ (t.port m).enable = (s.port m).enable

/-- A port keeps its state, its enable, and an access where it has one in flight. -/
def PortStill (m : Master) (s t : State) : Prop := SamePort m s t ∧ (s.hasAccess m = true → t.hasAccess m = true)

/-- The law of one port. -/
def PortOk (m : Master) (s : State) : Prop := ((s.port m).state = .resetting ∧ s.hasAccess m = true)
    ∨ (s.port m).state = if (s.port m).enable then .active else .disabled

/-- The law of one port but for the access in flight. -/
def PortLoose (m : Master) (s : State) : Prop := (s.port m).state = .resetting
    ∨ (s.port m).state = if (s.port m).enable then .active else .disabled

theorem SamePort.of_ports {m : Master} {s t : State} (same : t.ports = s.ports) : SamePort m s t := by
  simp [SamePort, State.port, same]

theorem SamePort.refl (m : Master) (s : State) : SamePort m s s := ⟨rfl, rfl⟩

theorem SamePort.trans {m : Master} {s t u : State} (h : SamePort m s t) (h' : SamePort m t u) : SamePort m s u :=
  ⟨h'.1.trans h.1, h'.2.trans h.2⟩

theorem PortStill.refl (m : Master) (s : State) : PortStill m s s := ⟨.refl m s, id⟩

theorem PortStill.trans {m : Master} {s t u : State} (h : PortStill m s t) (h' : PortStill m t u) : PortStill m s u :=
  ⟨h.1.trans h'.1, h'.2 ∘ h.2⟩

theorem PortStill.of_inFlight {m : Master} {s t : State} (port : SamePort m s t) (flight : t.inFlight = s.inFlight) :
    PortStill m s t :=
  ⟨port, by simp [State.hasAccess, flight]⟩

theorem PortOk.still {m : Master} {s t : State} (ok : PortOk m s) (still : PortStill m s t) : PortOk m t := by
  obtain ⟨⟨state, enable⟩, access⟩ := still
  rw [PortOk, state, enable]
  exact ok.imp_left fun h => ⟨h.1, access h.2⟩

theorem PortOk.loose {m : Master} {s : State} (ok : PortOk m s) : PortLoose m s := ok.imp_left And.left

theorem PortLoose.same {m : Master} {s t : State} (loose : PortLoose m s) (same : SamePort m s t) : PortLoose m t := by
  rw [PortLoose, same.1, same.2]
  exact loose

theorem Move.portStill {o s t : State} (move : Move o s t) (m : Master) : PortStill m s t := by
  cases move with
  | takeFault m' | takeRead m' | takeWrite m' | takePark m' =>
    refine .of_inFlight ⟨?_, ?_⟩ (by simp) <;> by_cases own : m = m' <;> simp [own, Port.setTag]
  | draw | tick => exact .refl m s
  | _ => exact .of_inFlight (by simp [SamePort]) (by simp)

theorem Reach.portStill {s t : State} (reach : Reach s t) (m : Master) : PortStill m s t :=
  reach.keep (P := PortStill m s) (.refl m s) fun _ _ move h => h.trans (move.portStill m)

/-- A record of an access of master `m`. -/
def AccessRecord.ofMaster (m : Master) (x : AccessRecord) : Bool :=
  match x.item with
  | some r => r.master = m
  | none => false

theorem State.hasAccess_eq (s : State) (m : Master) : s.hasAccess m = s.inFlight.any (AccessRecord.ofMaster m) := by
  unfold State.hasAccess
  congr 1

theorem AccessRecord.ofMaster_mark (m : Master) (x : AccessRecord) : x.mark.ofMaster m = x.ofMaster m := by
  cases x <;> rfl

theorem AccessRecord.ofMaster_of_item {m : Master} {x : AccessRecord} {r : ItemRecord} (item : x.item = some r) :
    x.ofMaster m = decide (r.master = m) := by
  simp [AccessRecord.ofMaster, item]

theorem AccessRecord.ofMaster_of_none {m : Master} {x : AccessRecord} (none : x.item = none) : x.ofMaster m = false := by
  simp [AccessRecord.ofMaster, none]

theorem QueueAct.portStill {s t : State} (act : QueueAct s t) (m : Master) : PortStill m s t := by
  cases act with
  | marks =>
    refine ⟨.refl m s, fun access => ?_⟩
    simpa only [State.hasAccess_eq, markItems, List.any_map, Function.comp_def, AccessRecord.ofMaster_mark] using access
  | _ => exact .of_inFlight (.refl m s) rfl

theorem QueueActs.portStill {s t : State} (acts : QueueActs s t) (m : Master) : PortStill m s t :=
  acts.keep (P := PortStill m s) (.refl m s) fun _ _ act h => h.trans (act.portStill m)

theorem hasAccess_cons (x : AccessRecord) (rest : List AccessRecord) (s : State) (m : Master) (oldest : s.inFlight = x :: rest) :
    s.hasAccess m = (x.ofMaster m || State.hasAccess { s with inFlight := rest } m) := by
  simp [State.hasAccess_eq, oldest]

/-- The end of a Port Reset, where it is due, makes good the law of its port (R44). -/
theorem PortLoose.portResetTest {m : Master} {s : State} (loose : PortLoose m s) : PortOk m (portResetTest m s) := by
  unfold Machine.portResetTest
  split
  · exact .inr (by simp [endPortReset])
  · rename_i runs
    refine loose.imp_left fun resetting => ⟨resetting, ?_⟩
    simpa [resetting] using runs

theorem portResetTest_portStill {m j : Master} (ne : j ≠ m) (s : State) : PortStill j s (portResetTest m s) := by
  unfold Machine.portResetTest
  split
  · exact .of_inFlight ⟨by simp [endPortReset, ne], by simp [endPortReset, ne]⟩ rfl
  · exact .refl j s

theorem readDone_samePort (r : ItemRecord) (res : BusResult) (s : State) (m : Master) : SamePort m s (readDone r res s) := by
  cases res <;> simp [SamePort, readDone]

theorem writeDone_samePort (r : ItemRecord) (res : BusResult) (s : State) (m : Master) : SamePort m s (writeDone r res s) := by
  simp only [writeDone]
  split
  · exact .refl m s
  · split
    · split <;> simp [SamePort]
    · exact .refl m s

/-- A record of master `m` leaves the list: the other ports keep the law, and its own but for the access. -/
theorem PortLaw.retireRecord {s u : State} (law : PortLaw s) {x : AccessRecord} {r : ItemRecord} {rest : List AccessRecord}
    (item : x.item = some r) (oldest : s.inFlight = x :: rest) (same : ∀ m, SamePort m s u) (flight : u.inFlight = rest) :
    PortLaw (retireRecord r u) := by
  intro m
  have retired : PortStill m u (lowerFence (if r.counted then 1 else 0) (retire r.aperture u)) :=
    PortStill.trans (.of_inFlight (.of_ports (by simp)) (by simp)) ((lowerFence_acts _ _).portStill m)
  by_cases own : m = r.master
  · subst own
    exact (((PortOk.loose (law r.master)).same (same _)).same retired.1).portResetTest
  · refine ((PortOk.still (law m) ⟨same m, fun access => ?_⟩).still retired).still (portResetTest_portStill own _)
    rw [hasAccess_cons x rest s m oldest, AccessRecord.ofMaster_of_item item] at access
    simpa [State.hasAccess, flight, Ne.symm own] using access

theorem PortLaw.still {s t : State} (law : PortLaw s) (still : ∀ m, PortStill m s t) : PortLaw t :=
  fun m => PortOk.still (law m) (still m)

theorem PortLaw.recordDone {s : State} (law : PortLaw s) {x : AccessRecord} {rest : List AccessRecord}
    (oldest : s.inFlight = x :: rest) (res : BusResult) : PortLaw (recordDone x res { s with inFlight := rest }) := by
  have left (none : x.item = none) (m : Master) : PortStill m s { s with inFlight := rest } := by
    refine ⟨.refl m s, fun access => ?_⟩
    rw [hasAccess_cons x rest s m oldest, AccessRecord.ofMaster_of_none none] at access
    simpa using access
  cases x with
  | discarded => exact law.still (left rfl)
  | walk c n p =>
    obtain ⟨-, same⟩ | ⟨w, -, reach⟩ := walkRecordDone_reach (s := s) (c := c) (n := n) (p := p) rest res
    · rw [same]; exact law.still (left rfl)
    · have finished (m : Master) : PortStill m s (finishWalkRead c w rest s) := left rfl m
      exact law.still fun m => (finished m).trans (reach.portStill m)
  | read r =>
    exact law.retireRecord (u := readDone r res { s with inFlight := rest }) rfl oldest (fun m => readDone_samePort r res _ m) (by simp)
  | write r =>
    exact law.retireRecord (u := writeDone r res { s with inFlight := rest }) rfl oldest (fun m => writeDone_samePort r res _ m) (by simp)

theorem PortLaw.resetPort {s : State} (law : PortLaw s) (m : Master) : PortLaw (resetPort m s) := by
  unfold Machine.resetPort
  split
  · exact law
  · rename_i live
    intro j
    have recalled (u : State) (l : List ApertureId) : PortStill j u (l.foldl (fun t n => retire n t) u) :=
      .of_inFlight ⟨by rw [foldl_retire_port], by rw [foldl_retire_port]⟩
        (foldl_retire_keeps (P := fun v => v.inFlight = u.inFlight) (by simp) l u rfl)
    have after := (recalled (sweep m (indicate m s)) (s.sweptApertures m)).trans ((lowerFence_acts (s.sweptCounted m) _).portStill j)
    by_cases own : j = m
    · subst own
      have swept : PortLoose j (sweep j (indicate j s)) := .inl (by simp [sweep_port])
      exact PortLoose.portResetTest (swept.same after.1)
    · have other : PortStill j s (sweep m (indicate m s)) :=
        .of_inFlight ⟨by simp [sweep_port, own], by simp [sweep_port, own]⟩ rfl
      exact (PortOk.still (law j) (other.trans after)).still (portResetTest_portStill own _)

theorem takeGrant_portStill (s : State) (m : Master) : PortStill m s (takeGrant s) := by
  have issued {u : State} (port : SamePort m s u) {x : AccessRecord} (flight : u.inFlight = s.inFlight ++ [x]) : PortStill m s u :=
    ⟨port, fun access => by simp_all [State.hasAccess]⟩
  unfold takeGrant
  split
  · split
    · exact .refl m s
    · unfold grantWalk
      split
      · exact .refl m s
      · exact issued ⟨rfl, rfl⟩ rfl
    · exact issued ⟨rfl, rfl⟩ rfl
    · exact issued ⟨rfl, rfl⟩ rfl
  · exact .refl m s

theorem HostAct.keeps_portLaw {b : Bool} {s t : State} (act : HostAct b false s t) (law : PortLaw s) : PortLaw t := by
  have still (ports : t.ports = s.ports) (flight : t.inFlight = s.inFlight) : PortLaw t :=
    law.still fun m => .of_inFlight (.of_ports ports) flight
  cases act with
  | opens n => obtain ⟨-, -, h⟩ | ⟨-, -, h⟩ | ⟨-, h⟩ := openCommand_cases n s <;> exact still (by simp [h]) (by simp [h])
  | closes n =>
    refine law.still fun m => closeCommand_keeps (P := PortStill m s) ?_ (fun _ _ => ?_) (fun _ => ?_) (fun u k h _ _ => ?_)
      fun u h => h.trans (.of_inFlight (.of_ports (by simp)) (by simp))
    · exact .of_inFlight (.of_ports rfl) rfl
    · exact .of_inFlight (.of_ports rfl) rfl
    · exact .of_inFlight (.of_ports rfl) rfl
    · exact h.trans (.of_inFlight (by simp [SamePort, abortSlot]) (by simp))
  | halts n => obtain ⟨-, h⟩ | ⟨-, h⟩ := haltCommand_cases n s <;> exact still (by simp [h]) (by simp [h])
  | resumes n => obtain ⟨-, h⟩ | ⟨-, h⟩ := resumeCommand_cases n s <;> exact still (by simp [h]) (by simp [h])
  | describes n w v =>
    refine still ?_ ?_ <;> unfold writeDescriptor <;> dsimp only <;> split <;> simp
  | enablesPort m e =>
    intro j
    simp only [storeEnable, State.port_setPort]
    split
    · rename_i own
      subst own
      by_cases resetting : (s.port j).state = .resetting
      · obtain ⟨-, access⟩ | idle := law j
        · exact .inl ⟨if_pos resetting, access⟩
        · rw [resetting] at idle; split at idle <;> cases idle
      · exact .inr (if_neg resetting)
    · exact law j
  | presents m x =>
    exact law.still fun j => .of_inFlight (by by_cases own : j = m <;> simp [SamePort, own]) rfl
  | sweeps m live allowed => cases allowed
  | _ => exact still rfl rfl

theorem ResetAct.port_enable {s t : State} (act : ResetAct s t) (m : Master) : (t.port m).enable = true := by
  obtain h | h := act.port_eq m <;> rw [h] <;> rfl

/-- A push: a kind that names no command, a command that is its own head, one that joins the queue, or a full queue (R140). -/
theorem pushStaged_cases (s : State) :
    (s.staging.command = none ∧ pushStaged s = programmingError .badCommand 0x068 s) ∨
    (∃ q, s.staging.command = some q ∧ s.invQueue = [] ∧ pushStaged s = handleHead [q] s) ∨
    (∃ q, s.staging.command = some q ∧ (s.invQueue ≠ [] ∧ s.invQueue.length < Config.invQueueEntries) ∧
      pushStaged s = { s with invQueue := s.invQueue ++ [q] }) ∨
    pushStaged s = setCause .invalidationOverflow s := by
  unfold pushStaged
  split
  · exact .inl ⟨by assumption, rfl⟩
  · rename_i q command
    split
    · rename_i room
      by_cases empty : s.invQueue = []
      · exact .inr (.inl ⟨q, command, empty, by simp [empty]⟩)
      · exact .inr (.inr (.inl ⟨q, command, ⟨empty, room⟩, by simp [empty]⟩))
    · exact .inr (.inr (.inr rfl))

theorem portLaw_keptByEvents : KeptByEvents PortLaw where
  arrival s m r law := by
    obtain ⟨a, reach⟩ := judgeArrival_reach m r s
    exact PortLaw.still (s := emit (.answer m r.tag a) s) law reach.portStill
  accept s m c rest offered law := law.still fun j =>
    .of_inFlight (by by_cases own : j = m <;> simp [SamePort, own, Port.setTag]) rfl
  grant s law := law.still (takeGrant_portStill s)
  completion s x rest res oldest law := law.recordDone oldest res
  walk s c w r walks unread law := law.still (Reach.completeWalk .refl
    (fun v busy => by cases walks.symm.trans busy; exact unread) r).portStill
  takeover s c idle law := law.still (Reach.takeover _ .refl idle).portStill
  tick s law := law.still (Reach.takeTick .refl).portStill
  expiry s k mem law := law.still (expireSlot_reach mem).portStill
  drain s n law := law.still fun m => (Move.drain (o := s) s n).portStill m
  ends s m law := by
    intro j
    by_cases own : j = m
    · subst own; exact PortLoose.portResetTest (PortOk.loose (law j))
    · exact PortOk.still (law j) (portResetTest_portStill own s)
  head s k law := law.still (handleHeadOfKind_acts k s).portStill
  fence s law := law.still (fenceTest_acts s).portStill
  push s law := by
    obtain ⟨-, h⟩ | ⟨q, -, -, h⟩ | ⟨q, -, -, h⟩ | h := pushStaged_cases s <;> rw [h]
    · exact law.still fun m => .of_inFlight (.of_ports (by simp)) (by simp)
    · exact law.still (handleHead_acts [q] s).portStill
    · exact law
    · exact law
  portReset s m law := law.resetPort m
  host s t act law := act.keeps_portLaw law
  reset s t act _ m := .inr (by rw [act.port_state, act.port_enable]; rfl)

/-- Settles O14: an issued access of a Resetting port leaves the part in an event that then tests the end of the reset. -/
theorem portStatesFollowEnableOrReset : Obligations.PortStatesFollowEnableOrReset := fun _ _ law done =>
  portLaw_keptByEvents.step done (fun _ _ h => h) law

end Sys2Proof.Machine

/-! PROOFS. The fence counter is the number of marked items (chapter 8). -/

namespace Sys2Proof.Machine

/-! ## Marks in the issue queues -/

/-- An Untranslated entry carries no mark (R113, R145). -/
def IssueQueues.Unmarked (q : IssueQueues) : Prop := ∀ e ∈ q.writes, e.state = .untranslated → e.counted = false

/-- A change of a master's queues that leaves the marked items as many as they were. -/
def IssueQueues.MarksKept (q q' : IssueQueues) : Prop := q.Unmarked → q'.Unmarked ∧ q'.markedCount = q.markedCount

theorem IssueQueues.MarksKept.refl (q : IssueQueues) : q.MarksKept q := fun clean => ⟨clean, rfl⟩

theorem IssueQueues.MarksKept.trans {p q r : IssueQueues} (h : p.MarksKept q) (h' : q.MarksKept r) : p.MarksKept r := fun clean =>
  ⟨(h' (h clean).1).1, (h' (h clean).1).2.trans (h clean).2⟩

theorem WriteEntry.isHole_iff (t : Tag) (e : WriteEntry) : e.isHole t = true ↔ e.state = .untranslated ∧ e.tag = t := by
  simp [WriteEntry.isHole]

/-- Taking out the first element that a test accepts leaves the count of elements that it does not accept. -/
theorem countP_eraseP_of_disjoint {α : Type} {p c : α → Bool} (apart : ∀ x, p x = true → c x = false) (l : List α) :
    (l.eraseP p).countP c = l.countP c := by
  induction l with
  | nil => rfl
  | cons x l ih =>
    by_cases h : p x = true
    · simp [List.eraseP_cons_of_pos h, apart x h]
    · simp [List.eraseP_cons_of_neg h, List.countP_cons, ih]

theorem IssueQueues.marksKept_eraseHole (q : IssueQueues) (t : Tag) :
    q.MarksKept { q with writes := q.writes.eraseP (·.isHole t) } := by
  refine fun clean => ⟨fun e he => clean e (List.mem_of_mem_eraseP he), ?_⟩
  simp only [IssueQueues.markedCount]
  rw [countP_eraseP_of_disjoint fun e hole => ?_]
  simp [WriteEntry.isTranslated, ((WriteEntry.isHole_iff t e).1 hole).1]

theorem mem_updateFirst {α : Type} {p : α → Bool} {f : α → α} {l : List α} {y : α} (mem : y ∈ updateFirst p f l) :
    y ∈ l ∨ ∃ x ∈ l, p x = true ∧ y = f x := by
  induction l with
  | nil => exact .inl mem
  | cons x l ih =>
    unfold updateFirst at mem
    split at mem
    · obtain rfl | mem := List.mem_cons.1 mem
      · exact .inr ⟨x, by simp, by assumption, rfl⟩
      · exact .inl (by simp [mem])
    · obtain rfl | mem := List.mem_cons.1 mem
      · exact .inl (by simp)
      · obtain mem | ⟨z, hz, h⟩ := ih mem
        · exact .inl (by simp [mem])
        · exact .inr ⟨z, by simp [hz], h⟩

theorem countP_updateFirst {α : Type} {p c : α → Bool} {f : α → α} {l : List α}
    (same : ∀ x ∈ l, p x = true → c (f x) = c x) : (updateFirst p f l).countP c = l.countP c := by
  induction l with
  | nil => rfl
  | cons x l ih =>
    unfold updateFirst
    split
    · simp [List.countP_cons, same x (by simp) (by assumption)]
    · simp [List.countP_cons, ih fun y hy => same y (by simp [hy])]

theorem IssueQueues.marksKept_translate (q : IssueQueues) (t : Tag) (phys : PhysAddr) (posted : Bool) :
    q.MarksKept { q with
      writes := updateFirst (·.isHole t) (fun e => { e with state := .translated phys, posted := posted }) q.writes } := by
  intro clean
  constructor
  · intro e he hole
    obtain he | ⟨x, -, -, rfl⟩ := mem_updateFirst he
    · exact clean e he hole
    · cases hole
  · simp only [IssueQueues.markedCount]
    rw [countP_updateFirst fun e he hole => ?_]
    have untranslated := ((WriteEntry.isHole_iff t e).1 hole).1
    simp [clean e he untranslated]

theorem IssueQueues.marksKept_appendRead (q : IssueQueues) {e : ReadEntry} (unmarked : e.counted = false) :
    q.MarksKept { q with reads := q.reads ++ [e] } := fun clean =>
  ⟨clean, by simp [IssueQueues.markedCount, unmarked]⟩

theorem IssueQueues.marksKept_appendWrite (q : IssueQueues) {e : WriteEntry} (unmarked : e.counted = false) :
    q.MarksKept { q with writes := q.writes ++ [e] } := by
  refine fun clean => ⟨fun x hx hole => ?_, by simp [IssueQueues.markedCount, unmarked]⟩
  obtain hx | rfl : x ∈ q.writes ∨ x = e := by simpa using hx
  · exact clean x hx hole
  · exact unmarked

/-! ## Changes that leave the fence -/

/-- A change that leaves the queue of invalidation commands, its fence, and the number of marked items. -/
structure FenceKept (s t : State) : Prop where
  queues : ∀ m, (s.queue m).MarksKept (t.queue m)
  flight : t.inFlight = s.inFlight
  commands : t.invQueue = s.invQueue
  waiting : t.fenceWaiting = s.fenceWaiting
  counter : t.fenceCounter = s.fenceCounter

theorem FenceKept.refl (s : State) : FenceKept s s := ⟨fun _ => .refl _, rfl, rfl, rfl, rfl⟩

theorem FenceKept.trans {s t u : State} (h : FenceKept s t) (h' : FenceKept t u) : FenceKept s u where
  queues m := (h.queues m).trans (h'.queues m)
  flight := h'.flight.trans h.flight
  commands := h'.commands.trans h.commands
  waiting := h'.waiting.trans h.waiting
  counter := h'.counter.trans h.counter

theorem FenceKept.of_same {s t : State} (queues : t.queues = s.queues) (flight : t.inFlight = s.inFlight)
    (commands : t.invQueue = s.invQueue) (waiting : t.fenceWaiting = s.fenceWaiting)
    (counter : t.fenceCounter = s.fenceCounter) : FenceKept s t :=
  ⟨fun m => by simpa [State.queue, queues] using IssueQueues.MarksKept.refl _, flight, commands, waiting, counter⟩

theorem marksKept_of_eq {q q' : IssueQueues} (same : q' = q) : q.MarksKept q' := same ▸ .refl q

/-- A parked write leaves an Untranslated entry, and a parked read nothing (R111). -/
theorem leaveHole_of_read {r : Request} {beats : Nat} (body : r.body = .read beats) (m : Master) (n : ApertureId) (a : Nat)
    (s : State) : leaveHole m r n a s = s := by
  simp [leaveHole, body]

theorem leaveHole_of_write {r : Request} {beats : List WriteBeat} (body : r.body = .write beats) (m : Master) (n : ApertureId)
    (a : Nat) (s : State) : leaveHole m r n a s =
      appendWrite m ⟨r.tag, a, r.address, beats, n, .untranslated, false, false⟩ s := by
  simp [leaveHole, body]

/-- A served read joins its master's read issue list, and a served write becomes Translated in its place (R77). -/
theorem passWaiter_of_read {k : ParkSlot} (kind : k.kind = .read) (p : PhysAddr) (s : State) : passWaiter k p s =
    freeSlot k.num (appendRead k.master ⟨k.tag, k.arrival, k.address, p, k.length, k.aperture, false⟩ s) := by
  simp [passWaiter, kind]

theorem passWaiter_of_write {k : ParkSlot} (kind : k.kind = .write) (p : PhysAddr) (s : State) : passWaiter k p s =
    freeSlot k.num (postOkay k.master k.tag (s.aperture k.aperture).posting
      (translateHole k.master k.tag p (s.aperture k.aperture).posting s)) := by
  simp [passWaiter, kind]

theorem Move.fenceKept {o s t : State} (move : Move o s t) : FenceKept s t := by
  cases move with
  | leave k x =>
    refine ⟨fun m => ?_, by simp, by simp, by simp, by simp⟩
    rw [leaveSlot_queue]
    split
    · exact IssueQueues.marksKept_eraseHole _ _
    · exact .refl _
  | pass k phys =>
    refine ⟨fun m => ?_, by simp, by simp, by simp, by simp⟩
    cases kind : k.kind with
    | read =>
      rw [passWaiter_of_read kind, freeSlot_queue, appendRead_queue]
      split
      · rename_i own; rw [own]; exact IssueQueues.marksKept_appendRead _ rfl
      · exact .refl _
    | write =>
      simp only [passWaiter_of_write kind, freeSlot_queue, postOkay_accessors, translateHole_queue]
      split
      · rename_i own; rw [own]; exact IssueQueues.marksKept_translate _ _ _ _
      · exact .refl _
  | takeRead m r n arrival beats phys =>
    refine ⟨fun j => ?_, by simp, by simp, by simp, by simp⟩
    rw [appendRead_queue]
    split
    · rename_i own; rw [own]; exact IssueQueues.marksKept_appendRead _ rfl
    · exact .refl _
  | takeWrite m r n arrival beats phys posting =>
    refine ⟨fun j => ?_, by simp, by simp, by simp, by simp⟩
    simp only [postOkay_accessors, appendWrite_queue]
    split
    · rename_i own; rw [own]; exact IssueQueues.marksKept_appendWrite _ rfl
    · exact .refl _
  | takePark m r n num page arrival place =>
    refine ⟨fun j => ?_, by simp, by simp, by simp, by simp⟩
    cases body : r.body with
    | read beats => rw [leaveHole_of_read body]; exact .refl _
    | write beats =>
      simp only [leaveHole_of_write body, addSlot_accessors, appendWrite_queue]
      split
      · rename_i own; rw [own]; exact IssueQueues.marksKept_appendWrite _ rfl
      · exact .refl _
  | draw | tick => exact .of_same rfl rfl rfl rfl rfl
  | _ => exact .of_same (by simp) (by simp) (by simp) (by simp) (by simp)

theorem Reach.fenceKept {s t : State} (reach : Reach s t) : FenceKept s t :=
  reach.keep (P := FenceKept s) (.refl s) fun _ _ move h => h.trans move.fenceKept

/-! ## The count of marked items -/

/-- A sum over the masters in which one master's part changes. -/
theorem sum_masters_of_one {f g : Master → Nat} {m : Master} (others : ∀ j, j ≠ m → f j = g j) :
    (allMasters.map f).sum + g m = (allMasters.map g).sum + f m := by
  have total (h : Master → Nat) : (allMasters.map h).sum = h m + ∑ j ∈ Finset.univ.erase m, h j := by
    rw [Finset.add_sum_erase _ _ (Finset.mem_univ m), Fin.sum_univ_six]
    simp only [allMasters, List.map_cons, List.map_nil, List.sum_cons, List.sum_nil]
    omega
  have rest : ∑ j ∈ Finset.univ.erase m, f j = ∑ j ∈ Finset.univ.erase m, g j :=
    Finset.sum_congr rfl fun j hj => others j (Finset.ne_of_mem_erase hj)
  rw [total f, total g, rest]
  omega

theorem sum_masters_congr {f g : Master → Nat} (same : ∀ m, f m = g m) : (allMasters.map f).sum = (allMasters.map g).sum := by
  rw [funext same]

/-- The law of the fence while `k` marked items have left the part and the counter has still to fall (R147). -/
structure FenceOwes (k : Nat) (s : State) : Prop where
  counter : s.fenceCounter = s.markedCount + k
  holes : ∀ m, (s.queue m).Unmarked
  waiting : s.fenceWaiting = true → 0 < s.fenceCounter ∧ ∃ q rest, s.invQueue = q :: rest ∧ q.kind = .fence
  idle : s.fenceWaiting = false → s.invQueue = [] ∧ s.fenceCounter = 0
  size : s.invQueue.length ≤ Config.invQueueEntries

theorem FenceLaw.owes {s : State} (law : FenceLaw s) : FenceOwes 0 s :=
  ⟨law.counter, law.holes, law.waiting, law.idle, law.size⟩

theorem FenceOwes.law {s : State} (owes : FenceOwes 0 s) : FenceLaw s :=
  ⟨owes.counter, owes.holes, owes.waiting, owes.idle, owes.size⟩

/-- Items leave or change their place: what has left is owed. -/
theorem FenceOwes.of_counts {k j : Nat} {s t : State} (owes : FenceOwes k s) (holes : ∀ m, (t.queue m).Unmarked)
    (marked : t.markedCount + j = s.markedCount) (commands : t.invQueue = s.invQueue)
    (waiting : t.fenceWaiting = s.fenceWaiting) (counter : t.fenceCounter = s.fenceCounter) : FenceOwes (j + k) t where
  counter := by rw [counter, owes.counter, ← marked]; omega
  holes := holes
  waiting := by rw [waiting, counter, commands]; exact owes.waiting
  idle := by rw [waiting, counter, commands]; exact owes.idle
  size := by rw [commands]; exact owes.size

theorem FenceOwes.kept {k : Nat} {s t : State} (owes : FenceOwes k s) (kept : FenceKept s t) : FenceOwes k t := by
  have marked : t.markedCount = s.markedCount := by
    unfold State.markedCount
    rw [kept.flight, sum_masters_congr fun m => (kept.queues m (owes.holes m)).2]
  simpa using owes.of_counts (j := 0) (fun m => (kept.queues m (owes.holes m)).1) marked kept.commands kept.waiting kept.counter

theorem FenceLaw.kept {s t : State} (law : FenceLaw s) (kept : FenceKept s t) : FenceLaw t := (law.owes.kept kept).law

/-! ## The queue of invalidation commands -/

/-- No fence waits and no item is marked. -/
structure FenceClear (s : State) : Prop where
  counter : s.fenceCounter = 0
  marked : s.markedCount = 0
  holes : ∀ m, (s.queue m).Unmarked
  idle : s.fenceWaiting = false

theorem FenceClear.of_same {s t : State} (clear : FenceClear s) (queues : t.queues = s.queues) (flight : t.inFlight = s.inFlight)
    (counter : t.fenceCounter = s.fenceCounter) (waiting : t.fenceWaiting = s.fenceWaiting) : FenceClear t where
  counter := counter.trans clear.counter
  marked := by simpa only [State.markedCount, State.queue, queues, flight] using clear.marked
  holes m := by simpa only [State.queue, queues] using clear.holes m
  idle := waiting.trans clear.idle

theorem IssueQueues.unmarked_mark {q : IssueQueues} (clean : q.Unmarked) : q.mark.Unmarked := by
  intro e he hole
  obtain ⟨x, hx, rfl⟩ := List.mem_map.1 he
  split at hole
  · rename_i item
    simp [WriteEntry.isItem, show x.state = .untranslated from hole] at item
  · rename_i other
    rw [if_neg other]
    exact clean x hx hole

theorem IssueQueues.markedCount_mark (q : IssueQueues) : q.mark.markedCount = q.itemCount := by
  have writes (e : WriteEntry) : ((if e.isItem then { e with counted := true } else e : WriteEntry).isTranslated &&
      (if e.isItem then { e with counted := true } else e : WriteEntry).counted) = e.isTranslated := by
    cases state : e.state <;> simp [WriteEntry.isItem, WriteEntry.isTranslated, state]
  simp only [IssueQueues.markedCount, IssueQueues.mark, IssueQueues.itemCount, List.countP_map, Function.comp_def, writes]
  simp

theorem AccessRecord.marked_mark (x : AccessRecord) : x.mark.marked = x.item.isSome := by
  cases x <;> rfl

/-- A fence that starts counts the items it marks (R145). -/
theorem startFence_markedCount (s : State) : (startFence s).markedCount = (startFence s).fenceCounter := by
  have queues (m : Master) : ((startFence s).queue m).markedCount = (s.queue m).itemCount := by
    rw [show (startFence s).queue m = (s.queue m).mark from getElem_mapSix _ _ m, IssueQueues.markedCount_mark]
  unfold State.markedCount
  rw [sum_masters_congr queues]
  simp only [startFence, State.itemCount, List.countP_map, Function.comp_def, AccessRecord.marked_mark]

theorem startFence_unmarked {s : State} (holes : ∀ m, (s.queue m).Unmarked) (m : Master) :
    ((startFence s).queue m).Unmarked := by
  rw [show (startFence s).queue m = (s.queue m).mark from getElem_mapSix _ _ m]
  exact IssueQueues.unmarked_mark (holes m)

/-- Handling the commands from the head on ends in the law, whatever waits behind the head (R142, R148). -/
theorem FenceClear.handleHead {s : State} (clear : FenceClear s) {l : List InvCommand}
    (size : l.length ≤ Config.invQueueEntries) : FenceLaw (handleHead l s) := by
  induction l generalizing s with
  | nil =>
    exact ⟨clear.counter.trans clear.marked.symm, clear.holes, fun waits => absurd (clear.idle.symm.trans waits) (by simp),
      fun _ => ⟨rfl, clear.counter⟩, size⟩
  | cons q rest ih =>
    have shorter : rest.length ≤ Config.invQueueEntries := (Nat.le_succ _).trans size
    unfold Machine.handleHead
    dsimp only
    split
    · rename_i fence
      have counter := startFence_markedCount { s with invQueue := q :: rest }
      have holes := startFence_unmarked (s := { s with invQueue := q :: rest }) clear.holes
      split
      · rename_i none
        refine ih (.of_same (s := { startFence { s with invQueue := q :: rest } with fenceWaiting := false })
          ⟨none, counter.trans none, holes, rfl⟩ (by simp) (by simp) (by simp) ?_) shorter
        unfold completeFence
        dsimp only
        split <;> rfl
      · rename_i some
        exact ⟨counter.symm, holes, fun _ => ⟨Nat.pos_of_ne_zero some, q, rest, rfl, fence⟩,
          fun idle => absurd idle (by simp [startFence]), size⟩
    · exact ih (clear.of_same (by simp) (by simp) (by simp) (by simp)) shorter

/-- The counter falls by what is owed, and at 0 the waiting fence completes (R147, R148). -/
theorem FenceOwes.lowerFence {k : Nat} {s : State} (owes : FenceOwes k s) : FenceLaw (lowerFence k s) := by
  unfold Machine.lowerFence
  split
  · rename_i none; subst none; exact owes.law
  · rename_i some
    have waits : s.fenceWaiting = true := by
      by_contra idle
      have := (owes.idle (by simpa using idle)).2
      have := owes.counter
      omega
    obtain ⟨-, q, rest, queue, kind⟩ := owes.waiting waits
    have lowered : s.fenceCounter - k = s.markedCount := by have := owes.counter; omega
    have size : (q :: rest).length ≤ Config.invQueueEntries := queue ▸ owes.size
    simp only [fenceTest, queue, waits, Bool.true_and, decide_eq_true_eq]
    split
    · rename_i zero
      have clear : FenceClear { s with fenceCounter := s.fenceCounter - k, fenceWaiting := false } :=
        ⟨zero, lowered.symm.trans zero, owes.holes, rfl⟩
      refine (clear.of_same (by simp) (by simp) (by simp) ?_).handleHead ((Nat.le_succ _).trans size)
      unfold completeFence
      dsimp only
      split <;> rfl
    · rename_i some
      exact ⟨lowered, owes.holes, fun _ => ⟨Nat.pos_of_ne_zero some, q, rest, rfl, kind⟩, (fun idle => nomatch idle), size⟩

/-- While the law holds, a waiting fence is not due. -/
theorem FenceLaw.fenceTest {s : State} (law : FenceLaw s) : fenceTest s = s := by
  unfold Machine.fenceTest
  split
  · rfl
  · rw [if_neg]
    intro due
    simp only [Bool.and_eq_true, decide_eq_true_eq] at due
    have := (law.waiting due.1).1
    omega

/-- While the law holds, the command at the head is a fence that waits. -/
theorem FenceLaw.handleHeadOfKind {s : State} (law : FenceLaw s) (k : InvKind) : handleHeadOfKind k s = s := by
  unfold Machine.handleHeadOfKind
  split
  · rfl
  · rename_i q rest queue
    rw [if_neg]
    intro due
    simp only [Bool.and_eq_true, Bool.not_eq_true'] at due
    have := (law.idle due.2).1
    simp [queue] at this

theorem FenceLaw.clear {s : State} (law : FenceLaw s) (empty : s.invQueue = []) : FenceClear s := by
  have idle : s.fenceWaiting = false := by
    by_contra waits
    obtain ⟨-, q, rest, queue, -⟩ := law.waiting (by simpa using waits)
    simp [empty] at queue
  have none := (law.idle idle).2
  exact ⟨none, law.counter.symm.trans none, law.holes, idle⟩

theorem FenceLaw.pushStaged {s : State} (law : FenceLaw s) : FenceLaw (pushStaged s) := by
  obtain ⟨-, h⟩ | ⟨q, -, empty, h⟩ | ⟨q, -, ⟨queued, room⟩, h⟩ | h := pushStaged_cases s <;> rw [h]
  · exact law.kept (.of_same rfl rfl rfl rfl rfl)
  · exact (law.clear empty).handleHead (Nat.succ_le_succ (Nat.zero_le 7))
  · have waits : s.fenceWaiting = true := by
      by_contra idle
      exact queued (law.idle (by simpa using idle)).1
    obtain ⟨some, p, rest, queue, kind⟩ := law.waiting waits
    exact ⟨law.counter, law.holes, fun _ => ⟨some, p, rest ++ [q], by simp [queue], kind⟩,
      fun idle => absurd (waits.symm.trans idle) (by simp), by simpa using room⟩
  · exact law.kept (.of_same rfl rfl rfl rfl rfl)

/-! ## Items that leave and move -/

theorem sum_masters_one_less {f g : Master → Nat} {m : Master} {j : Nat} (others : ∀ i, i ≠ m → f i = g i) (own : f m + j = g m) :
    (allMasters.map f).sum + j = (allMasters.map g).sum := by
  have := sum_masters_of_one others
  omega

theorem State.markedCount_cons {s : State} {x : AccessRecord} {rest : List AccessRecord} (oldest : s.inFlight = x :: rest) :
    State.markedCount { s with inFlight := rest } + (if x.marked then 1 else 0) = s.markedCount := by
  have := List.countP_cons (p := AccessRecord.marked) (a := x) (l := rest)
  simp only [State.markedCount, oldest, this]
  exact Nat.add_assoc _ _ _

/-- The Issued head of a queue leaves it without a mark in the queue: an Issued write is counted by its record. -/
theorem IssueQueues.marksKept_dropHead {q : IssueQueues} {e : WriteEntry} {rest : List WriteEntry} (head : q.writes = e :: rest)
    (issued : e.isIssued = true) : q.MarksKept { q with writes := rest } := by
  obtain ⟨p, state⟩ := (WriteEntry.isIssued_iff e).1 issued
  refine fun clean => ⟨fun x hx => clean x (by simp [head, hx]), ?_⟩
  simp [IssueQueues.markedCount, head, WriteEntry.isTranslated, state]

theorem setQueue_fenceKept {s : State} {m : Master} {q : IssueQueues} (kept : (s.queue m).MarksKept q) :
    FenceKept s (s.setQueue m q) := by
  refine ⟨fun j => ?_, rfl, rfl, rfl, rfl⟩
  rw [State.queue_setQueue]
  split
  · rename_i own; rw [own]; exact kept
  · exact .refl _

theorem readDone_fenceKept (r : ItemRecord) (res : BusResult) (s : State) : FenceKept s (readDone r res s) := by
  cases res <;> exact .of_same (by simp) (by simp) (by simp) (by simp) (by simp)

theorem writeDone_fenceKept (r : ItemRecord) (res : BusResult) (s : State) : FenceKept s (writeDone r res s) := by
  simp only [writeDone]
  split
  · exact .refl s
  · rename_i e rest head
    split
    · have dropped := setQueue_fenceKept (s := s) (m := r.master) (IssueQueues.marksKept_dropHead head (by assumption))
      split <;> exact dropped.trans (.of_same (by simp) (by simp) (by simp) (by simp) (by simp))
    · exact .refl s

theorem portResetTest_fenceKept (m : Master) (s : State) : FenceKept s (portResetTest m s) :=
  .of_same (by simp) (by simp) (by simp) (by simp) (by simp)

/-- The item of a record retires: its mark, if it has one, is owed until the counter falls (R134, R147). -/
theorem FenceLaw.retireRecord {s u : State} (law : FenceLaw s) {x : AccessRecord} {r : ItemRecord} {rest : List AccessRecord}
    (marked : x.marked = r.counted) (oldest : s.inFlight = x :: rest) (kept : FenceKept { s with inFlight := rest } u) :
    FenceLaw (retireRecord r u) := by
  have left : FenceOwes (if x.marked then 1 else 0) { s with inFlight := rest } :=
    law.owes.of_counts law.holes (State.markedCount_cons oldest) rfl rfl rfl
  rw [marked] at left
  have retired : FenceKept u (retire r.aperture u) := .of_same (by simp) (by simp) (by simp) (by simp) (by simp)
  exact (((left.kept kept).kept retired).lowerFence).kept (portResetTest_fenceKept _ _)

theorem FenceLaw.recordDone {s : State} (law : FenceLaw s) {x : AccessRecord} {rest : List AccessRecord}
    (oldest : s.inFlight = x :: rest) (res : BusResult) : FenceLaw (recordDone x res { s with inFlight := rest }) := by
  have left (none : x.marked = false) : FenceLaw { s with inFlight := rest } := by
    have := law.owes.of_counts (t := { s with inFlight := rest }) law.holes (State.markedCount_cons oldest) rfl rfl rfl
    rw [none] at this
    exact this.law
  cases x with
  | discarded => exact left rfl
  | walk c n p =>
    obtain ⟨-, same⟩ | ⟨w, -, reach⟩ := walkRecordDone_reach (s := s) (c := c) (n := n) (p := p) rest res
    · rw [same]; exact left rfl
    · have finished : FenceKept { s with inFlight := rest } (finishWalkRead c w rest s) := .of_same rfl rfl rfl rfl rfl
      exact (left rfl).kept (finished.trans reach.fenceKept)
  | read r => exact law.retireRecord rfl oldest (readDone_fenceKept r res _)
  | write r => exact law.retireRecord rfl oldest (writeDone_fenceKept r res _)

theorem sweep_markedCount (m : Master) (s : State) : (sweep m s).markedCount + s.sweptCounted m = s.markedCount := by
  have flight : (sweep m s).inFlight = s.inFlight := rfl
  simp only [State.markedCount, flight]
  have := sum_masters_one_less (f := fun j => ((sweep m s).queue j).markedCount) (g := fun j => (s.queue j).markedCount)
    (m := m) (j := s.sweptCounted m) (fun i other => by simp [sweep_queue, other]) ?_
  · omega
  · have none : ((s.queue m).writes.filter (·.isIssued)).countP (fun e => e.isTranslated && e.counted) = 0 := by
      refine List.countP_eq_zero.2 fun e he => ?_
      obtain ⟨p, state⟩ := (WriteEntry.isIssued_iff e).1 (List.mem_filter.1 he).2
      simp [WriteEntry.isTranslated, state]
    simp only [sweep_queue, if_true, IssueQueues.markedCount, State.sweptCounted, none, List.countP_nil]
    omega

theorem sweep_unmarked {s : State} (m : Master) (holes : ∀ m, (s.queue m).Unmarked) (j : Master) :
    ((sweep m s).queue j).Unmarked := by
  rw [sweep_queue]
  split
  · exact fun e he => holes m e (List.mem_filter.1 he).1
  · exact holes j

/-- The sweep of a Port Reset owes the marks it recalls until the counter falls (R121, R147). -/
theorem FenceLaw.resetPort {s : State} (law : FenceLaw s) (m : Master) : FenceLaw (resetPort m s) := by
  unfold Machine.resetPort
  split
  · exact law
  · have swept : FenceOwes (s.sweptCounted m) (sweep m (indicate m s)) :=
      law.owes.of_counts (sweep_unmarked m law.holes) (sweep_markedCount m (indicate m s)) rfl rfl rfl
    have retired : FenceKept (sweep m (indicate m s))
        ((s.sweptApertures m).foldl (fun t n => retire n t) (sweep m (indicate m s))) :=
      foldl_retire_keeps (P := FenceKept (sweep m (indicate m s)))
        (fun u n h => h.trans (.of_same (by simp) (by simp) (by simp) (by simp) (by simp))) _ _ (.refl _)
    exact ((swept.kept retired).lowerFence).kept (portResetTest_fenceKept _ _)

/-- Taking an element out of a list takes it out of every count it is in. -/
theorem countP_erase_of_mem {α : Type} [DecidableEq α] {l : List α} {e : α} (mem : e ∈ l) (c : α → Bool) :
    (l.erase e).countP c + (if c e then 1 else 0) = l.countP c := by
  rw [(List.perm_cons_erase mem).countP_eq c, List.countP_cons]

theorem updateFirst_of_split {α : Type} {p : α → Bool} {f : α → α} {front back : List α} {x : α}
    (ahead : ∀ y ∈ front, p y = false) (first : p x = true) : updateFirst p f (front ++ x :: back) = front ++ f x :: back := by
  induction front with
  | nil => simp [updateFirst, first]
  | cons y front ih => simp [updateFirst, ahead y (by simp), ih fun z hz => ahead z (by simp [hz])]

/-- A granted write becomes Issued in its place, behind Issued entries alone (R114). -/
theorem IssueQueues.issue_of_eligible {q : IssueQueues} {e : WriteEntry} (eligible : q.eligibleWrite = some e) :
    ∃ p front back, e.state = .translated p ∧ q.writes = front ++ e :: back ∧ (∀ y ∈ front, y.isIssued = true) ∧
      updateFirst (!·.isIssued) WriteEntry.issue q.writes = front ++ { e with state := .issued p } :: back := by
  obtain ⟨⟨p, state⟩, front, back, split, ahead⟩ := (IssueQueues.eligibleWrite_eq_some q e).1 eligible
  have ahead (y) (hy : y ∈ front) : y.isIssued = true := (WriteEntry.isIssued_iff y).2 (ahead y hy)
  refine ⟨p, front, back, state, split, ahead, ?_⟩
  rw [split, updateFirst_of_split (fun y hy => by simp [ahead y hy]) (by simp [WriteEntry.isIssued, state])]
  simp [WriteEntry.issue, state]

theorem IssueQueues.markedCount_issue {q : IssueQueues} {e : WriteEntry} (eligible : q.eligibleWrite = some e) :
    ({ q with writes := updateFirst (!·.isIssued) WriteEntry.issue q.writes } : IssueQueues).markedCount +
      (if e.counted then 1 else 0) = q.markedCount := by
  obtain ⟨p, front, back, state, split, -, issued⟩ := IssueQueues.issue_of_eligible eligible
  rw [issued]
  simp only [IssueQueues.markedCount, split, List.countP_append, List.countP_cons, WriteEntry.isTranslated, state,
    Bool.true_and, Bool.false_and]
  simp only [Bool.false_eq_true, if_false]
  omega

theorem IssueQueues.unmarked_issue {q : IssueQueues} {e : WriteEntry} (eligible : q.eligibleWrite = some e) (clean : q.Unmarked) :
    ({ q with writes := updateFirst (!·.isIssued) WriteEntry.issue q.writes } : IssueQueues).Unmarked := by
  obtain ⟨p, front, back, -, split, -, issued⟩ := IssueQueues.issue_of_eligible eligible
  intro x hx hole
  obtain hx | rfl | hx : x ∈ front ∨ x = { e with state := .issued p } ∨ x ∈ back := by simpa [issued] using hx
  · exact clean x (by simp [split, hx]) hole
  · cases hole
  · exact clean x (by simp [split, hx]) hole

/-- An item that is granted takes its mark from its queue to its record. -/
theorem FenceLaw.grants {s t : State} (law : FenceLaw s) {m : Master} {x : AccessRecord} (flight : t.inFlight = s.inFlight ++ [x])
    (others : ∀ j, j ≠ m → t.queue j = s.queue j) (clean : (t.queue m).Unmarked)
    (moved : (t.queue m).markedCount + (if x.marked then 1 else 0) = (s.queue m).markedCount)
    (commands : t.invQueue = s.invQueue) (waiting : t.fenceWaiting = s.fenceWaiting)
    (counter : t.fenceCounter = s.fenceCounter) : FenceLaw t := by
  refine (law.owes.of_counts (j := 0) (fun j => ?_) ?_ commands waiting counter).law
  · by_cases own : j = m
    · rw [own]; exact clean
    · rw [others j own]; exact law.holes j
  · have sums := sum_masters_one_less (f := fun j => (t.queue j).markedCount) (g := fun j => (s.queue j).markedCount)
      (fun j other => by rw [others j other]) moved
    have flights := List.countP_append (p := AccessRecord.marked) (l₁ := s.inFlight) (l₂ := [x])
    have one := List.countP_singleton (p := AccessRecord.marked) (a := x)
    simp only [State.markedCount, flight]
    omega

theorem FenceLaw.takeGrant {s : State} (law : FenceLaw s) : FenceLaw (takeGrant s) := by
  unfold Machine.takeGrant
  split
  · cases chosen : s.chosen with
    | none => exact law
    | some x =>
      obtain ⟨c, w, t, rfl, walks, -⟩ | ⟨m, e, rfl, eligible⟩ | ⟨m, e, rfl, eligible⟩ := State.chosen_eq_some chosen
      · simp only [grantWalk, walks]
        exact law.grants (m := 0) rfl (fun _ _ => rfl) (law.holes 0) rfl rfl rfl rfl
      · refine law.grants (m := m) rfl (fun j other => by rw [grantRead_queue, if_neg other]) ?_ ?_ rfl rfl rfl
        · rw [grantRead_queue, if_pos rfl]; exact law.holes m
        · rw [grantRead_queue, if_pos rfl]
          have moved := countP_erase_of_mem (IssueQueues.mem_of_eligibleRead eligible).1 (·.counted)
          change _ + (if e.counted = true then 1 else 0) = _ at moved
          change _ + (if e.counted = true then 1 else 0) = _
          simp only [IssueQueues.markedCount]
          omega
      · refine law.grants (m := m) rfl (fun j other => by rw [grantWrite_queue, if_neg other]) ?_ ?_ rfl rfl rfl
        · rw [grantWrite_queue, if_pos rfl]; exact IssueQueues.unmarked_issue eligible (law.holes m)
        · rw [grantWrite_queue, if_pos rfl]; exact IssueQueues.markedCount_issue eligible
  · exact law

/-! ## The host -/

theorem abortSlot_fenceKept (k : ParkSlot) (s : State) : FenceKept s (abortSlot s k) := by
  refine ⟨fun m => ?_, by simp, by simp, by simp, by simp⟩
  simp only [abortSlot, lowerCount_accessors, freeSlot_queue, dropParkedWrite_queue, pushCompletion_accessors]
  split
  · exact IssueQueues.marksKept_eraseHole _ _
  · exact .refl _

theorem HostAct.fenceKept {b : Bool} {s t : State} (act : HostAct b false s t) : FenceKept s t := by
  cases act with
  | opens n =>
    obtain ⟨-, -, h⟩ | ⟨-, -, h⟩ | ⟨-, h⟩ := openCommand_cases n s <;> rw [h] <;> exact .of_same rfl rfl rfl rfl rfl
  | closes n =>
    exact closeCommand_keeps (P := FenceKept s) (.of_same rfl rfl rfl rfl rfl) (fun _ _ => .of_same rfl rfl rfl rfl rfl)
      (fun _ => .of_same rfl rfl rfl rfl rfl) (fun u k h _ _ => h.trans (abortSlot_fenceKept k u))
      fun u h => h.trans (.of_same (by simp) (by simp) (by simp) (by simp) (by simp))
  | halts n => obtain ⟨-, h⟩ | ⟨-, h⟩ := haltCommand_cases n s <;> rw [h] <;> exact .of_same rfl rfl rfl rfl rfl
  | resumes n => obtain ⟨-, h⟩ | ⟨-, h⟩ := resumeCommand_cases n s <;> rw [h] <;> exact .of_same rfl rfl rfl rfl rfl
  | describes n w v => unfold writeDescriptor; dsimp only; split <;> exact .of_same rfl rfl rfl rfl rfl
  | sweeps m live allowed => cases allowed
  | _ => exact .of_same rfl rfl rfl rfl rfl

/-- After a reset the queues are empty, no fence waits, and the records left carry no mark. -/
theorem FenceLaw.of_reset {s : State} (queues : ∀ m, s.queue m = ⟨[], []⟩) (flight : ∀ x ∈ s.inFlight, x = .discarded)
    (commands : s.invQueue = []) (waiting : s.fenceWaiting = false) (counter : s.fenceCounter = 0) : FenceLaw s where
  counter := by
    have unmarked : s.inFlight.countP AccessRecord.marked = 0 :=
      List.countP_eq_zero.2 fun x hx => by rw [flight x hx]; decide
    rw [counter, State.markedCount, unmarked, sum_masters_congr fun m => by rw [queues m]]
    rfl
  holes m e he := by simp [queues m] at he
  waiting h := by simp [waiting] at h
  idle _ := ⟨commands, counter⟩
  size := by simp [commands]

theorem getElem_replicate_queue (m : Master) : (Vector.replicate 6 (⟨[], []⟩ : IssueQueues))[m] = ⟨[], []⟩ := by
  simp

theorem ResetAct.queue_eq_empty {s t : State} (act : ResetAct s t) (m : Master) : t.queue m = ⟨[], []⟩ := by
  cases act with
  | softReset => simp [State.queue, Machine.softReset]
  | holds => exact getElem_replicate_queue m
  | releases pass => simp [State.queue, release, hold, State.reset]

theorem ResetAct.keeps_fenceLaw {s t : State} (act : ResetAct s t) : FenceLaw t := by
  have queues := act.queue_eq_empty
  cases act with
  | softReset =>
    exact .of_reset queues (by simp [Machine.softReset]) (by simp [Machine.softReset]) (by simp [Machine.softReset])
      (by simp [Machine.softReset])
  | holds => exact .of_reset queues (by simp [hold, State.reset]) rfl rfl rfl
  | releases pass =>
    exact .of_reset queues (by simp [release, hold, State.reset]) (by simp [release, hold, State.reset])
      (by simp [release, hold, State.reset]) (by simp [release, hold, State.reset])

theorem fenceLaw_keptByEvents : KeptByEvents FenceLaw where
  arrival s m r law := by
    obtain ⟨a, reach⟩ := judgeArrival_reach m r s
    exact law.kept (FenceKept.trans (t := emit (.answer m r.tag a) s) (.of_same rfl rfl rfl rfl rfl) reach.fenceKept)
  accept s m c rest offered law := law.kept (.of_same rfl rfl rfl rfl rfl)
  grant s law := law.takeGrant
  completion s x rest res oldest law := law.recordDone oldest res
  walk s c w r walks unread law := law.kept (Reach.completeWalk .refl
    (fun v busy => by cases walks.symm.trans busy; exact unread) r).fenceKept
  takeover s c idle law := law.kept (Reach.takeover _ .refl idle).fenceKept
  tick s law := law.kept (Reach.takeTick .refl).fenceKept
  expiry s k mem law := law.kept (expireSlot_reach mem).fenceKept
  drain s n law := law.kept (Move.drain (o := s) s n).fenceKept
  ends s m law := law.kept (portResetTest_fenceKept m s)
  head s k law := by rwa [law.handleHeadOfKind]
  fence s law := by rwa [law.fenceTest]
  push s law := law.pushStaged
  portReset s m law := law.resetPort m
  host s t act law := law.kept act.fenceKept
  reset s t act _ := act.keeps_fenceLaw

/-- Settles O13: the marks that leave the part in an event are owed until its counter falls, which tests the waiting fence. -/
theorem fenceCounterCountsTheMarkedItems : Obligations.FenceCounterCountsTheMarkedItems := fun _ _ law done =>
  fenceLaw_keptByEvents.step done (fun _ _ h => ⟨h.counter, h.holes, h.waiting, h.idle, h.size⟩) law

end Sys2Proof.Machine

/-! PROOFS. The bounds of the fault log and of the in-flight list (sections 7.1 and 9.2). -/

namespace Sys2Proof.Machine

/-! ## The fault log -/

/-- A record with a repeat count in range. -/
def FaultRecord.counted (r : FaultRecord) : Prop := 1 ≤ r.repeats ∧ r.repeats ≤ Config.maxRepeat

theorem FaultRecord.bump_counted {r : FaultRecord} (counted : r.counted) : r.bump.counted := by
  obtain ⟨low, high⟩ := counted
  unfold FaultRecord.bump FaultRecord.counted
  dsimp only
  split
  · exact ⟨by omega, by assumption⟩
  · exact ⟨low, high⟩

/-- A report that coalesces leaves the records as many as they were, each with its count in range. -/
theorem coalesce_keeps {r : FaultRecord} {l l' : List FaultRecord} (done : coalesce r l = some l')
    (counted : ∀ x ∈ l, x.counted) : l'.length = l.length ∧ ∀ x ∈ l', x.counted := by
  obtain rfl | ⟨older, newest, rfl⟩ := List.eq_nil_or_concat l
  · cases done
  · rw [List.concat_eq_append, coalesce_append_newest] at done
    split at done
    · cases done
      simp only [List.concat_eq_append, List.mem_append, List.mem_singleton, or_imp, forall_and, forall_eq] at counted
      refine ⟨by simp, fun x hx => ?_⟩
      obtain hx | rfl : x ∈ older ∨ x = newest.bump := by simpa using hx
      · exact counted.1 x hx
      · exact FaultRecord.bump_counted counted.2
    · cases done

theorem LogLaw.of_log {s t : State} (law : LogLaw s) (same : t.log = s.log) : LogLaw t :=
  ⟨by rw [same]; exact law.size, by rw [same]; exact law.repeats⟩

theorem LogLaw.report {s : State} (law : LogLaw s) {r : FaultRecord} (once : r.repeats = 1) : LogLaw (report r s) := by
  unfold Machine.report
  split
  · rename_i log done
    obtain ⟨length, counted⟩ := coalesce_keeps done law.repeats
    exact ⟨length.trans_le law.size, counted⟩
  · split
    · rename_i room
      refine ⟨by simpa using room, fun x hx => ?_⟩
      obtain hx | rfl : x ∈ s.log ∨ x = r := by simpa using hx
      · exact law.repeats x hx
      · exact ⟨once.ge, once.trans_le (by decide)⟩
    · exact law.of_log rfl

theorem Move.keeps_logLaw {o s t : State} (move : Move o s t) (law : LogLaw s) : LogLaw t := by
  cases move with
  | report r once => exact law.report once
  | draw | tick => exact law.of_log rfl
  | _ => exact law.of_log (by simp)

theorem LogLaw.readDone {s : State} (law : LogLaw s) (r : ItemRecord) (res : BusResult) : LogLaw (readDone r res s) := by
  cases res with
  | okay beats => exact law.of_log (by simp [Machine.readDone])
  | error => exact (law.of_log (t := pushCompletion r.master ⟨r.tag, .memoryError⟩ s) (by simp)).report rfl

theorem LogLaw.writeDone {s : State} (law : LogLaw s) (r : ItemRecord) (res : BusResult) : LogLaw (writeDone r res s) := by
  simp only [Machine.writeDone]
  split
  · exact law
  · split
    · split
      · exact law.of_log (by simp)
      · exact law.of_log rfl
      · exact LogLaw.report (law.of_log (by simp)) rfl
      · exact LogLaw.report (law.of_log (by simp)) rfl
    · exact law

theorem Act.keeps_logLaw {s t : State} (act : Act s t) (law : LogLaw s) : LogLaw t := by
  cases act with
  | moves reach => exact reach.keep law fun _ _ move => move.keeps_logLaw
  | read r res rest =>
    exact ((law.of_log (t := { s with inFlight := rest }) rfl).readDone r res).of_log (by simp [finishRead])
  | write r res rest =>
    exact ((law.of_log (t := { s with inFlight := rest }) rfl).writeDone r res).of_log (by simp [finishWrite])
  | grantWalk c w t room walks => exact law.of_log (by simp [Machine.grantWalk, walks])
  | fences | marks | drops | walkRead | accepts | grantRead | grantWrite | emits | invalidates => exact law.of_log rfl
  | ends m => exact law.of_log (by simp)

theorem HostAct.keeps_logLaw {b b' : Bool} {s t : State} (act : HostAct b b' s t) (law : LogLaw s) : LogLaw t := by
  cases act with
  | opens n => obtain ⟨-, -, h⟩ | ⟨-, -, h⟩ | ⟨-, h⟩ := openCommand_cases n s <;> rw [h] <;> exact law.of_log rfl
  | closes n =>
    exact law.of_log (closeCommand_keeps (P := fun u => u.log = s.log) (by simp) (by simp) (by simp)
      (by simp +contextual) (by simp))
  | halts n => obtain ⟨-, h⟩ | ⟨-, h⟩ := haltCommand_cases n s <;> rw [h] <;> exact law.of_log rfl
  | resumes n => obtain ⟨-, h⟩ | ⟨-, h⟩ := resumeCommand_cases n s <;> rw [h] <;> exact law.of_log rfl
  | describes n w v => unfold writeDescriptor; dsimp only; split <;> exact law.of_log rfl
  | sweeps m => exact law.of_log (foldl_retire_keeps (P := fun u => u.log = s.log) (by simp) _ _ rfl)
  | pops =>
    exact ⟨(List.tail_sublist s.log).length_le.trans law.size, fun r hr => law.repeats r (List.mem_of_mem_tail hr)⟩
  | _ => exact law.of_log rfl

theorem ResetAct.keeps_logLaw {s t : State} (act : ResetAct s t) : LogLaw t := by
  have empty : t.log = [] := by
    cases act with
    | softReset => simp [Machine.softReset]
    | holds => rfl
    | releases pass => simp [release, hold, State.reset]
  exact ⟨by simp [empty], by simp [empty]⟩

theorem step_keeps_logLaw {s t : State} (done : step s = .next t) (law : LogLaw s) : LogLaw t :=
  step_keeps done law (fun _ _ h => ⟨h.size, h.repeats⟩) (fun _ _ act => act.keeps_logLaw)
    (fun _ _ act => act.keeps_logLaw) fun _ _ act _ => act.keeps_logLaw

/-! ## The in-flight list -/

theorem InFlightLaw.of_inFlight {s t : State} (law : InFlightLaw s) (same : t.inFlight = s.inFlight) : InFlightLaw t :=
  ⟨by rw [same]; exact law.size, by rw [same]; exact law.oldest⟩

theorem InFlightLaw.tail {s t : State} (law : InFlightLaw s) {x : AccessRecord} {rest : List AccessRecord}
    (oldest : s.inFlight = x :: rest) (left : t.inFlight = rest) : InFlightLaw t := by
  obtain ⟨size, order⟩ := law
  rw [oldest] at size order
  exact ⟨by rw [left]; exact (Nat.le_succ _).trans size, by rw [left]; exact (List.pairwise_cons.1 order).2⟩

/-- An issued access joins the list behind the marked ones (R128, R136). -/
theorem InFlightLaw.append {s t : State} (law : InFlightLaw s) (room : s.inFlight.length < Config.maxInFlight)
    {x : AccessRecord} (issued : x ≠ .discarded) (joined : t.inFlight = s.inFlight ++ [x]) : InFlightLaw t := by
  refine ⟨by rw [joined, List.length_append]; exact room, ?_⟩
  rw [joined]
  refine List.pairwise_append.2 ⟨law.oldest, by simp, fun a ha b hb marked => ?_⟩
  obtain rfl := List.mem_singleton.1 hb
  exact absurd marked issued

theorem AccessRecord.mark_eq_discarded {x : AccessRecord} : x.mark = .discarded ↔ x = .discarded := by
  cases x <;> simp [AccessRecord.mark]

theorem InFlightLaw.marks {s : State} (law : InFlightLaw s) : InFlightLaw (markItems s) :=
  ⟨(List.length_map _).trans_le law.size, List.pairwise_map.2 (law.oldest.imp fun h => by
    simpa only [AccessRecord.mark_eq_discarded] using h)⟩

theorem Move.keeps_inFlight {o s t : State} (move : Move o s t) : t.inFlight = s.inFlight := by
  cases move with
  | draw | tick => rfl
  | _ => simp

theorem Act.keeps_inFlightLaw {s t : State} (act : Act s t) (law : InFlightLaw s) : InFlightLaw t := by
  cases act with
  | moves reach =>
    exact law.of_inFlight (reach.keep (P := fun u => u.inFlight = s.inFlight) rfl fun _ _ move h => move.keeps_inFlight.trans h)
  | marks => exact law.marks
  | drops x rest oldest => exact law.tail oldest rfl
  | walkRead c n p w rest oldest => exact law.tail oldest rfl
  | read r res rest oldest => exact law.tail oldest (by simp [finishRead])
  | write r res rest oldest => exact law.tail oldest (by simp [finishWrite])
  | grantWalk c w t room walks =>
    exact law.append room (x := .walk c w.aperture _) nofun (by simp [Machine.grantWalk, walks, issue, emit]; rfl)
  | grantRead m e room => exact law.append room (x := .read _) nofun rfl
  | grantWrite m e room => exact law.append room (x := .write _) nofun rfl
  | fences | accepts | emits | invalidates => exact law.of_inFlight rfl
  | ends m => exact law.of_inFlight (by simp)

theorem HostAct.keeps_inFlight {b b' : Bool} {s t : State} (act : HostAct b b' s t) : t.inFlight = s.inFlight := by
  cases act with
  | opens n => obtain ⟨-, -, h⟩ | ⟨-, -, h⟩ | ⟨-, h⟩ := openCommand_cases n s <;> rw [h] <;> rfl
  | closes n =>
    exact closeCommand_keeps (P := fun u => u.inFlight = s.inFlight) (by simp) (by simp) (by simp)
      (by simp +contextual) (by simp)
  | halts n => obtain ⟨-, h⟩ | ⟨-, h⟩ := haltCommand_cases n s <;> rw [h] <;> rfl
  | resumes n => obtain ⟨-, h⟩ | ⟨-, h⟩ := resumeCommand_cases n s <;> rw [h] <;> rfl
  | describes n w v => unfold writeDescriptor; dsimp only; split <;> rfl
  | sweeps m => exact foldl_retire_keeps (P := fun u => u.inFlight = s.inFlight) (by simp) _ _ rfl
  | _ => rfl

/-- A reset empties the list or marks all its records (R136, R137). -/
theorem ResetAct.inFlight {s t : State} (act : ResetAct s t) :
    (∀ x ∈ t.inFlight, x = .discarded) ∧ t.inFlight.length ≤ s.inFlight.length := by
  cases act with
  | softReset => simp [Machine.softReset]
  | holds => simp [hold, State.reset]
  | releases pass => simp [release, hold, State.reset]

theorem ResetAct.keeps_inFlightLaw {s t : State} (act : ResetAct s t) (law : InFlightLaw s) : InFlightLaw t :=
  ⟨act.inFlight.2.trans law.size, List.pairwise_of_forall_mem_list fun a ha _ _ _ => act.inFlight.1 a ha⟩

theorem step_keeps_inFlightLaw {s t : State} (done : step s = .next t) (law : InFlightLaw s) : InFlightLaw t :=
  step_keeps done law (fun _ _ h => ⟨h.size, h.oldest⟩) (fun _ _ act => act.keeps_inFlightLaw)
    (fun _ _ act h => h.of_inFlight act.keeps_inFlight) fun _ _ act => act.keeps_inFlightLaw

/-! ## The park table -/

theorem Act.keeps_parkLaw {s t : State} (act : Act s t) (law : ParkLaw s) : ParkLaw t := by
  cases act with
  | moves reach => exact reach.keep law fun _ _ move => move.keeps_parkLaw
  | grantWalk c w t room walks => exact law.of_park (by simp [Machine.grantWalk, walks])
  | fences | marks | drops | walkRead | accepts | emits | invalidates | grantRead | grantWrite => exact law
  | read | write => exact law.of_park (by simp [finishRead, finishWrite])
  | ends m => exact law.of_park (by simp)

theorem HostAct.keeps_parkLaw {b b' : Bool} {s t : State} (act : HostAct b b' s t) (law : ParkLaw s) : ParkLaw t := by
  cases act with
  | opens n => obtain ⟨-, -, h⟩ | ⟨-, -, h⟩ | ⟨-, h⟩ := openCommand_cases n s <;> rw [h] <;> exact law
  | closes n =>
    exact closeCommand_keeps (P := ParkLaw) law (fun _ _ => law) (fun _ => law)
      (fun u k h _ _ => h.of_sublist (by simp)) fun u h => h.of_park (by simp)
  | halts n => obtain ⟨-, h⟩ | ⟨-, h⟩ := haltCommand_cases n s <;> rw [h] <;> exact law
  | resumes n => obtain ⟨-, h⟩ | ⟨-, h⟩ := resumeCommand_cases n s <;> rw [h] <;> exact law
  | describes n w v => unfold writeDescriptor; dsimp only; split <;> exact law
  | sweeps m =>
    have swept : ParkLaw (sweep m s) := law.of_sublist List.filter_sublist
    exact swept.of_park (foldl_retire_park _ _)
  | _ => exact law

theorem ResetAct.park_eq_nil {s t : State} (act : ResetAct s t) : t.park = [] := by
  cases act with
  | softReset => simp [Machine.softReset]
  | holds => rfl
  | releases pass => simp [release, hold, State.reset]

theorem step_keeps_parkLaw {s t : State} (done : step s = .next t) (law : ParkLaw s) : ParkLaw t :=
  step_keeps done law (fun _ _ h => h) (fun _ _ act => act.keeps_parkLaw) (fun _ _ act => act.keeps_parkLaw)
    fun _ _ act _ => by simp [ParkLaw, act.park_eq_nil]

/-- Sixteen slot numbers, each busy at most once (R90). -/
theorem ParkLaw.length_le {s : State} (law : ParkLaw s) : s.park.length ≤ 16 := by
  have distinct : (s.park.map (·.num)).Nodup := List.pairwise_map.2 law
  simpa using distinct.length_le_card

end Sys2Proof.Machine

/-! PROOFS. The law of the requests, one master at a time: what it sees of a master, and what each operation does to that. -/

namespace Sys2Proof.Machine

/-! ## What the law sees of a master -/

/-- What the law of the requests sees of a parked slot. -/
structure Parked where
  tag : Tag
  kind : AccessKind
  aperture : ApertureId

def ParkSlot.parked (k : ParkSlot) : Parked := ⟨k.tag, k.kind, k.aperture⟩

/-- The tag of a read record of master `m`. -/
def AccessRecord.readTag (m : Master) : AccessRecord → Option Tag
  | .read r => if r.master = m then some r.tag else none
  | .discarded | .walk _ _ _ | .write _ => none

/-- The tag and the aperture of a write record of master `m`. -/
def AccessRecord.writeKey (m : Master) : AccessRecord → Option (Tag × ApertureId)
  | .write r => if r.master = m then some (r.tag, r.aperture) else none
  | .discarded | .walk _ _ _ | .read _ => none

/-- What the law of the requests sees of a master. -/
structure MasterView where
  slots : List Parked
  reads : List Tag
  writes : List WriteEntry
  flights : List Tag
  records : List (Tag × ApertureId)
  completions : List Completion
  tag : Tag → Option AccessKind
  resetting : Prop

def State.view (s : State) (m : Master) : MasterView where
  slots := (s.park.filter (·.master = m)).map ParkSlot.parked
  reads := (s.queue m).reads.map (·.tag)
  writes := (s.queue m).writes
  flights := s.inFlight.filterMap (AccessRecord.readTag m)
  records := s.inFlight.filterMap (AccessRecord.writeKey m)
  completions := (s.port m).completions
  tag := (s.port m).tag
  resetting := (s.port m).state = .resetting

/-- A write past its translation whose completion is still to come. -/
def WriteEntry.owes (e : WriteEntry) : Bool := e.isItem && !e.posted

def MasterView.outstanding (v : MasterView) : List Tag :=
  v.slots.map (·.tag) ++ v.reads ++ (v.writes.filter WriteEntry.owes).map (·.tag) ++ v.flights ++ v.completions.map (·.tag)

theorem State.view_outstanding (s : State) (m : Master) : (s.view m).outstanding = s.outstanding m := by
  have flights : s.inFlight.filterMap (AccessRecord.readTag m) = s.inFlight.filterMap (fun x => match x with
      | .read r => if r.master = m then some r.tag else none
      | .discarded | .walk _ _ _ | .write _ => none) :=
    List.filterMap_congr fun x _ => by cases x <;> rfl
  simp only [MasterView.outstanding, State.view, State.outstanding, List.map_map, flights]
  rfl

theorem State.view_records (s : State) (m : Master) : (s.view m).records = s.writeRecords m :=
  List.filterMap_congr fun x _ => by cases x <;> rfl

/-- An Untranslated entry of a tag and an aperture. -/
def WriteEntry.isHoleOf (g : Tag) (n : ApertureId) (e : WriteEntry) : Bool := e.state = .untranslated ∧ e.tag = g ∧ e.aperture = n

/-- A parked write of a tag and an aperture. -/
def Parked.isWriteOf (g : Tag) (n : ApertureId) (k : Parked) : Bool := k.kind = .write ∧ k.tag = g ∧ k.aperture = n

/-- Each outstanding request has a tag of its own, and on a port that is not Resetting those are the tags InUse. -/
structure TagLaw (v : MasterView) : Prop where
  distinct : v.outstanding.Nodup
  inUse : ∀ g ∈ v.outstanding, (v.tag g).isSome = true
  settled : ¬ v.resetting → ∀ g, (v.tag g).isSome = true → g ∈ v.outstanding

/-- Each tag has the kind of its request. -/
structure KindLaw (v : MasterView) : Prop where
  slots : ∀ k ∈ v.slots, v.tag k.tag = some k.kind
  reads : ∀ g ∈ v.reads, v.tag g = some .read
  writes : ∀ e ∈ v.writes, e.owes = true → v.tag e.tag = some .write
  flights : ∀ g ∈ v.flights, v.tag g = some .read
  completions : ∀ c ∈ v.completions, (∀ beats, c.status = .okayRead beats → v.tag c.tag = some .read) ∧
    (c.status = .okayWrite → v.tag c.tag = some .write)

/-- The write-order queue: its Untranslated entries are those of the parked writes, and its Issued entries stand at the head,
one for each write record. -/
structure OrderLaw (v : MasterView) : Prop where
  holes : ∀ g n, v.writes.countP (WriteEntry.isHoleOf g n) = v.slots.countP (Parked.isWriteOf g n)
  order : v.writes.Pairwise fun x y => y.isIssued = true → x.isIssued = true
  issued : (v.writes.filter (·.isIssued)).map (fun e => (e.tag, e.aperture)) = v.records
  room : v.writes.length ≤ Config.writeQueueEntries

/-- The law of one master's requests. -/
structure ViewLaw (v : MasterView) : Prop where
  tags : TagLaw v
  kinds : KindLaw v
  writes : OrderLaw v

theorem pairwise_isIssued_iff (l : List WriteEntry) : (l.Pairwise fun x y => y.isIssued = true → x.isIssued = true) ↔
    ∀ e ∈ l.dropWhile (·.isIssued), e.isIssued = false := by
  induction l with
  | nil => simp
  | cons x l ih =>
    cases issued : x.isIssued with
    | true => simp [issued, ih]
    | false =>
      have later : (l.Pairwise fun x y => y.isIssued = true → x.isIssued = true) ∨ ∃ y ∈ l, y.isIssued = true := by
        by_cases some : ∃ y ∈ l, y.isIssued = true
        · exact .inr some
        · refine .inl (List.pairwise_of_forall_mem_list fun a _ b hb h => absurd ⟨b, hb, h⟩ some)
      simp only [List.pairwise_cons, issued, List.dropWhile_cons, Bool.false_eq_true, if_false, imp_false, Bool.not_eq_true,
        List.mem_cons, forall_eq_or_imp, true_and]
      exact ⟨And.left, fun h => ⟨h, later.resolve_right fun ⟨y, hy, hi⟩ => by simp [h y hy] at hi⟩⟩

theorem State.countP_view_slots (s : State) (m : Master) (g : Tag) (n : ApertureId) :
    (s.view m).slots.countP (Parked.isWriteOf g n) =
      s.park.countP fun k => k.master = m ∧ k.kind = .write ∧ k.tag = g ∧ k.aperture = n := by
  simp only [State.view, List.countP_map, List.countP_filter]
  refine List.countP_congr fun k _ => ?_
  rw [Bool.and_eq_true, decide_eq_true_eq, decide_eq_true_eq, Function.comp_apply, Parked.isWriteOf, decide_eq_true_eq]
  exact and_comm

/-- The law of the requests is that of every master's, with the laws of the slots and of the Resetting ports. -/
theorem requestLaw_iff (s : State) : RequestLaw s ↔ ParkLaw s ∧ SweptLaw s ∧ ∀ m, ViewLaw (s.view m) := by
  constructor
  · intro law
    refine ⟨law.slots, law.swept, fun m => ⟨⟨?_, ?_, ?_⟩, ⟨?_, ?_, ?_, ?_, law.completionKinds m⟩, ⟨?_, ?_, ?_, law.room m⟩⟩⟩
    · rw [State.view_outstanding]; exact law.distinct m
    · rw [State.view_outstanding]; exact law.inUse m
    · rw [State.view_outstanding]; exact fun live g => law.settled m g live
    · intro k hk
      obtain ⟨x, hx, rfl⟩ := List.mem_map.1 hk
      obtain ⟨hx, own⟩ := List.mem_filter.1 hx
      rw [decide_eq_true_eq] at own
      exact own ▸ law.parkedKinds x hx
    · intro g hg
      obtain ⟨e, he, rfl⟩ := List.mem_map.1 hg
      exact law.readKinds m e he
    · intro e he owes
      simp only [WriteEntry.owes, Bool.and_eq_true, Bool.not_eq_true'] at owes
      exact law.writeKinds m e he owes.1 owes.2
    · intro g hg
      obtain ⟨x, hx, tag⟩ := List.mem_filterMap.1 hg
      cases x with
      | read r =>
        simp only [AccessRecord.readTag, Option.ite_none_right_eq_some, Option.some.injEq] at tag
        obtain ⟨rfl, rfl⟩ := tag
        exact law.flightKinds r hx
      | _ => cases tag
    · intro g n
      rw [State.countP_view_slots, ← law.holes m g n]
      rfl
    · exact (pairwise_isIssued_iff _).2 (law.front m)
    · rw [State.view_records]; exact law.issued m
  · rintro ⟨slots, swept, views⟩
    refine ⟨slots, swept, fun m => ?_, fun m => ?_, fun k hk => ?_, fun m e he => ?_, fun m e he item unposted => ?_,
      fun r hr => ?_, fun m => (views m).kinds.completions, fun m g live => ?_, fun m g n => ?_, fun m => ?_, fun m => ?_,
      fun m => (views m).writes.room⟩
    · rw [← State.view_outstanding]; exact (views m).tags.distinct
    · rw [← State.view_outstanding]; exact (views m).tags.inUse
    · exact (views k.master).kinds.slots k.parked (List.mem_map_of_mem (List.mem_filter.2 ⟨hk, by simp⟩))
    · exact (views m).kinds.reads e.tag (List.mem_map_of_mem he)
    · exact (views m).kinds.writes e he (by simp [WriteEntry.owes, item, unposted])
    · exact (views r.master).kinds.flights r.tag (List.mem_filterMap.2 ⟨_, hr, by simp [AccessRecord.readTag]⟩)
    · rw [← State.view_outstanding]; exact (views m).tags.settled live g
    · rw [← State.countP_view_slots, ← (views m).writes.holes g n]; rfl
    · exact (pairwise_isIssued_iff _).1 (views m).writes.order
    · rw [← State.view_records]; exact (views m).writes.issued

/-! ## What an operation does to the view -/

theorem MasterView.mem_outstanding (v : MasterView) (g : Tag) : g ∈ v.outstanding ↔ (∃ k ∈ v.slots, k.tag = g) ∨ g ∈ v.reads ∨
    (∃ e ∈ v.writes, e.owes = true ∧ e.tag = g) ∨ g ∈ v.flights ∨ ∃ c ∈ v.completions, c.tag = g := by
  simp [MasterView.outstanding, and_assoc]

/-- The outstanding tags stand in another order, for a port that has not come out of Resetting. -/
theorem TagLaw.of_perm {v v' : MasterView} (law : TagLaw v) (perm : v'.outstanding.Perm v.outstanding) (tag : v'.tag = v.tag)
    (resetting : v.resetting → v'.resetting) : TagLaw v' where
  distinct := perm.nodup_iff.2 law.distinct
  inUse g hg := by rw [tag]; exact law.inUse g (perm.mem_iff.1 hg)
  settled live g used := perm.mem_iff.2 (law.settled (fun h => live (resetting h)) g (by rwa [tag] at used))

/-- On a Resetting port requests may vanish. -/
theorem TagLaw.of_sublist {v v' : MasterView} (law : TagLaw v) (fewer : v'.outstanding.Sublist v.outstanding) (tag : v'.tag = v.tag)
    (resetting : v'.resetting) : TagLaw v' where
  distinct := fewer.nodup law.distinct
  inUse g hg := by rw [tag]; exact law.inUse g (fewer.subset hg)
  settled live := absurd resetting live

/-- A request is Taken on a Free tag. -/
theorem TagLaw.takes {v v' : MasterView} (law : TagLaw v) {g : Tag} {k : AccessKind} (free : v.tag g = none)
    (perm : v'.outstanding.Perm (g :: v.outstanding)) (tag : ∀ x, v'.tag x = if x = g then some k else v.tag x)
    (live : ¬ v.resetting) : TagLaw v' where
  distinct := by
    refine perm.nodup_iff.2 (List.nodup_cons.2 ⟨fun mem => ?_, law.distinct⟩)
    have := law.inUse g mem
    simp [free] at this
  inUse x hx := by
    rw [tag]
    split
    · rfl
    · exact law.inUse x ((List.mem_cons.1 (perm.mem_iff.1 hx)).resolve_left (by assumption))
  settled _ x used := by
    rw [tag] at used
    rw [perm.mem_iff]
    split at used
    · rename_i own; rw [own]; exact List.mem_cons_self
    · exact List.mem_cons_of_mem _ (law.settled live x used)

/-- The kinds of the outstanding tags are all the law looks at. -/
theorem KindLaw.retag {v : MasterView} (law : KindLaw v) {tag : Tag → Option AccessKind}
    (same : ∀ g ∈ v.outstanding, tag g = v.tag g) : KindLaw { v with tag := tag } where
  slots k hk := (same _ ((v.mem_outstanding _).2 (.inl ⟨k, hk, rfl⟩))).trans (law.slots k hk)
  reads g hg := (same _ ((v.mem_outstanding _).2 (.inr (.inl hg)))).trans (law.reads g hg)
  writes e he owes := (same _ ((v.mem_outstanding _).2 (.inr (.inr (.inl ⟨e, he, owes, rfl⟩))))).trans (law.writes e he owes)
  flights g hg := (same _ ((v.mem_outstanding _).2 (.inr (.inr (.inr (.inl hg)))))).trans (law.flights g hg)
  completions c hc := by
    have kind := same _ ((v.mem_outstanding _).2 (.inr (.inr (.inr (.inr ⟨c, hc, rfl⟩)))))
    exact ⟨fun beats ok => kind.trans ((law.completions c hc).1 beats ok), fun ok => kind.trans ((law.completions c hc).2 ok)⟩

theorem TagLaw.ne_of_free {v : MasterView} (law : TagLaw v) {g : Tag} (free : v.tag g = none) {x : Tag} (mem : x ∈ v.outstanding) :
    x ≠ g := by
  rintro rfl
  have := law.inUse x mem
  simp [free] at this

/-- The kinds after a request is Taken. -/
theorem KindLaw.takes {v : MasterView} (law : KindLaw v) (tags : TagLaw v) {g : Tag} {k : AccessKind} (free : v.tag g = none)
    {tag : Tag → Option AccessKind} (now : ∀ x, tag x = if x = g then some k else v.tag x) : KindLaw { v with tag := tag } :=
  law.retag fun x mem => (now x).trans (if_neg (tags.ne_of_free free mem))

/-- A completion that reports a failure joins the queue. -/
theorem KindLaw.appendCompletion {v : MasterView} (law : KindLaw v) {c : Completion}
    (read : ∀ beats, c.status = .okayRead beats → v.tag c.tag = some .read)
    (write : c.status = .okayWrite → v.tag c.tag = some .write) :
    KindLaw { v with completions := v.completions ++ [c] } where
  slots := law.slots
  reads := law.reads
  writes := law.writes
  flights := law.flights
  completions x hx := by
    obtain hx | rfl : x ∈ v.completions ∨ x = c := by simpa using hx
    · exact law.completions x hx
    · exact ⟨read, write⟩

theorem CompletionStatus.failed_not_okayRead {x : CompletionStatus} (failed : x.failed = true) (beats : List Beat) :
    x ≠ .okayRead beats := by
  rintro rfl; cases failed

theorem CompletionStatus.failed_not_okayWrite {x : CompletionStatus} (failed : x.failed = true) : x ≠ .okayWrite := by
  rintro rfl; cases failed

theorem KindLaw.appendFailure {v : MasterView} (law : KindLaw v) {g : Tag} {x : CompletionStatus} (failed : x.failed = true) :
    KindLaw { v with completions := v.completions ++ [⟨g, x⟩] } :=
  law.appendCompletion (fun beats ok => absurd ok (CompletionStatus.failed_not_okayRead failed beats))
    fun ok => absurd ok (CompletionStatus.failed_not_okayWrite failed)

/-- The kinds of fewer slots, reads, writes, flights and completions. -/
theorem KindLaw.subset {v v' : MasterView} (law : KindLaw v) (tag : v'.tag = v.tag) (slots : v'.slots ⊆ v.slots)
    (reads : v'.reads ⊆ v.reads) (writes : v'.writes ⊆ v.writes) (flights : v'.flights ⊆ v.flights)
    (completions : v'.completions ⊆ v.completions) : KindLaw v' where
  slots k hk := by rw [tag]; exact law.slots k (slots hk)
  reads g hg := by rw [tag]; exact law.reads g (reads hg)
  writes e he := by rw [tag]; exact law.writes e (writes he)
  flights g hg := by rw [tag]; exact law.flights g (flights hg)
  completions c hc := by rw [tag]; exact law.completions c (completions hc)

/-! ### The write-order queue -/

/-- The Untranslated entry of a parked write: the first of its tag, and of its aperture (R88, R112). -/
theorem OrderLaw.hole_of_slot {v : MasterView} (law : OrderLaw v) (distinct : (v.slots.map (·.tag)).Nodup) {k : Parked}
    (mem : k ∈ v.slots) (kind : k.kind = .write) : ∃ front e back, v.writes = front ++ e :: back ∧
      (∀ y ∈ front, y.isHole k.tag = false) ∧ e.state = .untranslated ∧ e.tag = k.tag ∧ e.aperture = k.aperture := by
  have held : 0 < v.writes.countP (WriteEntry.isHoleOf k.tag k.aperture) := by
    rw [law.holes]
    exact List.countP_pos_iff.2 ⟨k, mem, by simp [Parked.isWriteOf, kind]⟩
  obtain ⟨x, hx, hole⟩ := List.countP_pos_iff.1 held
  have some : ∃ e, v.writes.find? (·.isHole k.tag) = some e := by
    rw [← Option.isSome_iff_exists, List.find?_isSome]
    exact ⟨x, hx, by simp_all [WriteEntry.isHoleOf, WriteEntry.isHole]⟩
  obtain ⟨e, found⟩ := some
  obtain ⟨own, front, back, split, ahead⟩ := List.find?_eq_some_iff_append.1 found
  obtain ⟨state, tag⟩ := (WriteEntry.isHole_iff _ _).1 own
  refine ⟨front, e, back, split, fun y hy => by simpa using ahead y hy, state, tag, ?_⟩
  have parked : 0 < v.slots.countP (Parked.isWriteOf k.tag e.aperture) := by
    rw [← law.holes]
    exact List.countP_pos_iff.2 ⟨e, by simp [split], by simp [WriteEntry.isHoleOf, state, tag]⟩
  obtain ⟨j, hj, same⟩ := List.countP_pos_iff.1 parked
  simp only [Parked.isWriteOf, decide_eq_true_eq] at same
  obtain ⟨-, sameTag, aperture⟩ := same
  have : j = k := List.inj_on_of_nodup_map distinct hj mem sameTag
  rw [← aperture, this]

/-- An Untranslated entry leaves the queue or becomes Translated, with its slot. -/
theorem OrderLaw.fillHole {v v' : MasterView} (law : OrderLaw v) {front back new : List WriteEntry} {e : WriteEntry} {k : Parked}
    (split : v.writes = front ++ e :: back) (state : e.state = .untranslated) (tag : e.tag = k.tag)
    (aperture : e.aperture = k.aperture) (kind : k.kind = .write) (slots : v.slots.Perm (k :: v'.slots))
    (writes : v'.writes = front ++ new ++ back) (few : new.length ≤ 1)
    (plain : ∀ x ∈ new, x.isIssued = false ∧ x.state ≠ .untranslated) (records : v'.records = v.records) : OrderLaw v' where
  holes g n := by
    have before := law.holes g n
    have none : new.countP (WriteEntry.isHoleOf g n) = 0 :=
      List.countP_eq_zero.2 fun x hx => by simp [WriteEntry.isHoleOf, (plain x hx).2]
    have same : WriteEntry.isHoleOf g n e = Parked.isWriteOf g n k := by
      simp [WriteEntry.isHoleOf, Parked.isWriteOf, state, tag, aperture, kind]
    rw [slots.countP_eq, split] at before
    simp only [List.countP_append, List.countP_cons, same] at before
    simp only [writes, List.countP_append, none]
    omega
  order := by
    have before := law.order
    rw [split] at before
    have fewer : (front ++ back).Pairwise fun x y => y.isIssued = true → x.isIssued = true :=
      before.sublist (List.Sublist.append (.refl front) (List.sublist_cons_self e back))
    obtain ⟨-, tail, ahead⟩ := List.pairwise_append.1 before
    have unissued (y) (hy : y ∈ back) : ¬ y.isIssued = true := fun h => by
      have := (List.pairwise_cons.1 tail).1 y hy h
      simp [WriteEntry.isIssued, state] at this
    obtain ⟨fronts, backs, across⟩ := List.pairwise_append.1 fewer
    rw [writes, List.append_assoc]
    refine List.pairwise_append.2 ⟨fronts, List.pairwise_append.2 ⟨?_, backs, fun x _ y hy h => absurd h (unissued y hy)⟩,
      fun x hx y hy => ?_⟩
    · exact List.pairwise_of_forall_mem_list fun a _ b hb h => by simp [(plain b hb).1] at h
    · obtain hy | hy := List.mem_append.1 hy
      · exact fun h => by simp [(plain y hy).1] at h
      · exact across x hx y hy
  issued := by
    have none : new.filter (·.isIssued) = [] := List.filter_eq_nil_iff.2 fun x hx => by simp [(plain x hx).1]
    have before := law.issued
    rw [split] at before
    rw [records, ← before, writes]
    simp [List.filter_append, none, show e.isIssued = false by simp [WriteEntry.isIssued, state]]
  room := by
    have before := law.room
    rw [split] at before
    rw [writes]
    simp only [List.length_append, List.length_cons] at before ⊢
    omega

/-- The slots change by one that is no write, and the queue stays. -/
theorem OrderLaw.of_slots {v v' : MasterView} (law : OrderLaw v) (writes : v'.writes = v.writes) (records : v'.records = v.records)
    (counts : ∀ g n, v'.slots.countP (Parked.isWriteOf g n) = v.slots.countP (Parked.isWriteOf g n)) : OrderLaw v' where
  holes g n := by rw [writes, law.holes, counts]
  order := by rw [writes]; exact law.order
  issued := by rw [writes, records]; exact law.issued
  room := by rw [writes]; exact law.room

/-- A write joins the tail of the queue (R111). -/
theorem OrderLaw.append {v v' : MasterView} (law : OrderLaw v) {e : WriteEntry} (writes : v'.writes = v.writes ++ [e])
    (records : v'.records = v.records) (unissued : e.isIssued = false)
    (slots : ∀ g n, v'.slots.countP (Parked.isWriteOf g n) =
      v.slots.countP (Parked.isWriteOf g n) + if WriteEntry.isHoleOf g n e then 1 else 0)
    (room : v.writes.length < Config.writeQueueEntries) : OrderLaw v' where
  holes g n := by rw [slots, writes, List.countP_append, law.holes, List.countP_singleton]
  order := by
    rw [writes]
    refine List.pairwise_append.2 ⟨law.order, by simp, fun x _ y hy h => ?_⟩
    obtain rfl := List.mem_singleton.1 hy
    simp [unissued] at h
  issued := by rw [writes, records, ← law.issued]; simp [List.filter_append, unissued]
  room := by rw [writes, List.length_append]; exact room

end Sys2Proof.Machine

/-! PROOFS. What each operation does to the law of one master's requests. -/

namespace Sys2Proof.Machine

/-- Each outstanding request stands in one of the five places (R36, R38). -/
theorem MasterView.count_outstanding (v : MasterView) (g : Tag) : v.outstanding.count g =
    (v.slots.map (·.tag)).count g + v.reads.count g + ((v.writes.filter WriteEntry.owes).map (·.tag)).count g
      + v.flights.count g + (v.completions.map (·.tag)).count g := by
  simp [MasterView.outstanding, Nat.add_assoc]

/-- Two views have the same tags outstanding where each tag is as often in the five places. -/
theorem MasterView.perm_of_counts {v v' : MasterView} {l : List Tag} (counts : ∀ g,
    (v'.slots.map (·.tag)).count g + v'.reads.count g + ((v'.writes.filter WriteEntry.owes).map (·.tag)).count g
      + v'.flights.count g + (v'.completions.map (·.tag)).count g = l.count g + ((v.slots.map (·.tag)).count g +
    v.reads.count g + ((v.writes.filter WriteEntry.owes).map (·.tag)).count g + v.flights.count g +
      (v.completions.map (·.tag)).count g)) : v'.outstanding.Perm (l ++ v.outstanding) := by
  refine List.perm_iff_count.2 fun g => ?_
  rw [List.count_append, MasterView.count_outstanding, MasterView.count_outstanding, counts g]

theorem count_tags_cons {l l' : List Parked} {k : Parked} (perm : l.Perm (k :: l')) (g : Tag) :
    (l.map (·.tag)).count g = (l'.map (·.tag)).count g + [k.tag].count g := by
  rw [(perm.map _).count_eq, List.map_cons, ← List.singleton_append, List.count_append, Nat.add_comm]

theorem TagLaw.slots_nodup {v : MasterView} (law : TagLaw v) : (v.slots.map (·.tag)).Nodup := by
  refine law.distinct.sublist ?_
  simp only [MasterView.outstanding, List.append_assoc]
  exact List.sublist_append_left _ _

/-- Slots in another order. -/
theorem ViewLaw.of_perm_slots {v : MasterView} (law : ViewLaw v) {slots : List Parked} (perm : v.slots.Perm slots) :
    ViewLaw { v with slots := slots } where
  tags := by
    refine law.tags.of_perm (MasterView.perm_of_counts (l := []) fun g => ?_) rfl id
    simp [(perm.map Parked.tag).count_eq]
  kinds := law.kinds.subset rfl (perm.symm.subset) (.refl _) (.refl _) (.refl _) (.refl _)
  writes := law.writes.of_slots rfl rfl fun g n => (perm.countP_eq _).symm

/-- The place of the Untranslated entry of a parked write, and what becomes of the queue there (R112, R113). -/
theorem ViewLaw.hole_of_slot {v : MasterView} (law : ViewLaw v) {k : Parked} (mem : k ∈ v.slots) (kind : k.kind = .write) :
    ∃ front e back, v.writes = front ++ e :: back ∧ e.state = .untranslated ∧ e.tag = k.tag ∧ e.aperture = k.aperture ∧
      v.writes.eraseP (·.isHole k.tag) = front ++ back ∧
      ∀ f : WriteEntry → WriteEntry, updateFirst (·.isHole k.tag) f v.writes = front ++ f e :: back := by
  obtain ⟨front, e, back, split, ahead, state, tag, aperture⟩ := law.writes.hole_of_slot law.tags.slots_nodup mem kind
  have own : e.isHole k.tag = true := (WriteEntry.isHole_iff _ _).2 ⟨state, tag⟩
  refine ⟨front, e, back, split, state, tag, aperture, ?_, fun f => ?_⟩
  · rw [split, List.eraseP_append_right _ (by simpa using ahead), List.eraseP_cons_of_pos own]
  · rw [split, updateFirst_of_split ahead own]

theorem WriteEntry.owes_of_hole {e : WriteEntry} (state : e.state = .untranslated) : e.owes = false := by
  simp [WriteEntry.owes, WriteEntry.isItem, state]

/-- A parked request leaves with a completion that reports a failure, and its entry with it (R78, R96, R103). -/
theorem ViewLaw.leave {v : MasterView} (law : ViewLaw v) {k : Parked} {slots : List Parked} (perm : v.slots.Perm (k :: slots))
    {x : CompletionStatus} (failed : x.failed = true) :
    ViewLaw { v with
      slots := slots
      writes := if k.kind = .write then v.writes.eraseP (·.isHole k.tag) else v.writes
      completions := v.completions ++ [⟨k.tag, x⟩] } := by
  have mem : k ∈ v.slots := perm.mem_iff.2 List.mem_cons_self
  have fewer : slots ⊆ v.slots := fun y hy => perm.mem_iff.2 (List.mem_cons_of_mem _ hy)
  cases kind : k.kind with
  | read =>
    refine ⟨law.tags.of_perm (MasterView.perm_of_counts (l := []) fun g => ?_) rfl id, ?_, ?_⟩
    · simp [count_tags_cons perm]; omega
    · exact (law.kinds.subset (v' := { v with slots := slots }) rfl fewer (.refl _) (.refl _) (.refl _) (.refl _)).appendFailure failed
    · exact law.writes.of_slots (by simp) rfl fun g n => by simp [perm.countP_eq, Parked.isWriteOf, kind]
  | write =>
    obtain ⟨front, e, back, split, state, tag, aperture, erased, -⟩ := law.hole_of_slot mem kind
    rw [if_pos rfl, erased]
    refine ⟨law.tags.of_perm (MasterView.perm_of_counts (l := []) fun g => ?_) rfl id, ?_, ?_⟩
    · simp [count_tags_cons perm, split, List.filter_append, WriteEntry.owes_of_hole state]; omega
    · refine KindLaw.appendFailure (v := { v with slots := slots, writes := front ++ back })
        (law.kinds.subset rfl fewer (.refl _) ?_ (.refl _) (.refl _)) failed
      rw [split]
      exact List.append_subset.2 ⟨List.subset_append_left _ _, fun y hy => by simp [hy]⟩
    · exact law.writes.fillHole (new := []) split state tag aperture kind perm (by simp) (by simp) (by simp) rfl

/-- A parked read joins its master's read list (R77). -/
theorem ViewLaw.passRead {v : MasterView} (law : ViewLaw v) {k : Parked} {slots : List Parked} (perm : v.slots.Perm (k :: slots))
    (kind : k.kind = .read) : ViewLaw { v with slots := slots, reads := v.reads ++ [k.tag] } := by
  have fewer : slots ⊆ v.slots := fun y hy => perm.mem_iff.2 (List.mem_cons_of_mem _ hy)
  refine ⟨law.tags.of_perm (MasterView.perm_of_counts (l := []) fun g => ?_) rfl id, ?_, ?_⟩
  · simp [count_tags_cons perm]; omega
  · obtain ⟨inSlots, inReads, inWrites, inFlights, inCompletions⟩ := law.kinds
    refine ⟨fun j hj => inSlots j (fewer hj), fun g hg => ?_, inWrites, inFlights, inCompletions⟩
    obtain hg | rfl : g ∈ v.reads ∨ g = k.tag := by simpa using hg
    · exact inReads g hg
    · rw [← kind]; exact inSlots k (perm.mem_iff.2 List.mem_cons_self)
  · exact law.writes.of_slots rfl rfl fun g n => by simp [perm.countP_eq, Parked.isWriteOf, kind]

/-- A completion that may come at once. -/
def okayIf (posting : Bool) (g : Tag) : List Completion := if posting then [⟨g, .okayWrite⟩] else []

theorem KindLaw.appendOkay {v : MasterView} (law : KindLaw v) {g : Tag} (kind : v.tag g = some .write) (posting : Bool) :
    KindLaw { v with completions := v.completions ++ okayIf posting g } := by
  cases posting with
  | false => simpa [okayIf] using law
  | true => exact law.appendCompletion (fun beats ok => by cases ok) fun _ => kind

/-- A parked write becomes Translated in its place, and in a posting aperture its completion is given (R77, R118). -/
theorem ViewLaw.passWrite {v : MasterView} (law : ViewLaw v) {k : Parked} {slots : List Parked} (perm : v.slots.Perm (k :: slots))
    (kind : k.kind = .write) (phys : PhysAddr) (posting : Bool) :
    ViewLaw { v with
      slots := slots
      writes := updateFirst (·.isHole k.tag) (fun e => { e with state := .translated phys, posted := posting }) v.writes
      completions := v.completions ++ okayIf posting k.tag } := by
  have mem : k ∈ v.slots := perm.mem_iff.2 List.mem_cons_self
  have fewer : slots ⊆ v.slots := fun y hy => perm.mem_iff.2 (List.mem_cons_of_mem _ hy)
  have used : v.tag k.tag = some .write := kind ▸ law.kinds.slots k mem
  obtain ⟨front, e, back, split, state, tag, aperture, -, updated⟩ := law.hole_of_slot mem kind
  rw [updated]
  refine ⟨law.tags.of_perm (MasterView.perm_of_counts (l := []) fun g => ?_) rfl id, ?_, ?_⟩
  · cases posting <;>
      simp [count_tags_cons perm, split, List.filter_append, WriteEntry.owes, WriteEntry.isItem, state, tag,
        okayIf, List.count_cons] <;> omega
  · refine KindLaw.appendOkay (v := { v with
      slots := slots, writes := front ++ { e with state := .translated phys, posted := posting } :: back }) ?_ used posting
    obtain ⟨inSlots, inReads, inWrites, inFlights, inCompletions⟩ := law.kinds
    refine ⟨fun j hj => inSlots j (fewer hj), inReads, fun x hx owes => ?_, inFlights, inCompletions⟩
    obtain hx | rfl | hx : x ∈ front ∨ x = { e with state := .translated phys, posted := posting } ∨ x ∈ back := by simpa using hx
    · exact inWrites x (by simp [split, hx]) owes
    · rw [← tag] at used; exact used
    · exact inWrites x (by simp [split, hx]) owes
  · exact law.writes.fillHole (new := [{ e with state := .translated phys, posted := posting }]) split state tag aperture kind perm
      (by simp) (by simp) (by simp [WriteEntry.isIssued]) rfl

/-! ## Requests that are Taken -/

section
variable {v : MasterView} (law : ViewLaw v) {g : Tag} (free : v.tag g = none) (live : ¬ v.resetting)
include law free live

/-- A request that faults at once (R60). -/
theorem ViewLaw.takeFault (kind : AccessKind) (x : CompletionStatus) (failed : x.failed = true) :
    ViewLaw { v with
      tag := fun y => if y = g then some kind else v.tag y
      completions := v.completions ++ [⟨g, x⟩] } where
  tags := law.tags.takes free (MasterView.perm_of_counts (l := [g]) fun y => by simp; omega) (fun _ => rfl) live
  kinds := (law.kinds.takes law.tags free fun _ => rfl).appendFailure failed
  writes := law.writes.of_slots rfl rfl fun _ _ => rfl

/-- A read that is queued at once (R110). -/
theorem ViewLaw.takeRead : ViewLaw { v with
    tag := fun y => if y = g then some .read else v.tag y
    reads := v.reads ++ [g] } where
  tags := law.tags.takes free (MasterView.perm_of_counts (l := [g]) fun y => by simp; omega) (fun _ => rfl) live
  kinds := by
    obtain ⟨slots, reads, writes, flights, completions⟩ := law.kinds.takes law.tags free (k := .read) fun _ => rfl
    refine ⟨slots, fun y hy => ?_, writes, flights, completions⟩
    obtain hy | rfl : y ∈ v.reads ∨ y = g := by simpa using hy
    · exact reads y hy
    · exact if_pos rfl
  writes := law.writes.of_slots rfl rfl fun _ _ => rfl

/-- A write that is queued at once (R111, R118). -/
theorem ViewLaw.takeWrite {e : WriteEntry} {phys : PhysAddr} (state : e.state = .translated phys) (tag : e.tag = g)
    (room : v.writes.length < Config.writeQueueEntries) : ViewLaw { v with
      tag := fun y => if y = g then some .write else v.tag y
      writes := v.writes ++ [e]
      completions := v.completions ++ okayIf e.posted g } where
  tags := by
    refine law.tags.takes free (MasterView.perm_of_counts (l := [g]) fun y => ?_) (fun _ => rfl) live
    cases posted : e.posted <;>
      simp [List.filter_append, WriteEntry.owes, WriteEntry.isItem, state, tag, posted, okayIf] <;> omega
  kinds := by
    refine KindLaw.appendOkay (v := { v with tag := fun y => if y = g then some .write else v.tag y, writes := v.writes ++ [e] })
      ?_ (if_pos rfl) e.posted
    obtain ⟨slots, reads, writes, flights, completions⟩ := law.kinds.takes law.tags free (k := .write) fun _ => rfl
    refine ⟨slots, reads, fun x hx owes => ?_, flights, completions⟩
    obtain hx | rfl : x ∈ v.writes ∨ x = e := by simpa using hx
    · exact writes x hx owes
    · exact if_pos tag
  writes := law.writes.append rfl rfl (by simp [WriteEntry.isIssued, state]) (by simp [WriteEntry.isHoleOf, state]) room

/-- A read that is parked (R91). -/
theorem ViewLaw.parkRead (n : ApertureId) : ViewLaw { v with
    tag := fun y => if y = g then some .read else v.tag y
    slots := v.slots ++ [⟨g, .read, n⟩] } where
  tags := law.tags.takes free (MasterView.perm_of_counts (l := [g]) fun y => by simp; omega) (fun _ => rfl) live
  kinds := by
    obtain ⟨slots, reads, writes, flights, completions⟩ := law.kinds.takes law.tags free (k := .read) fun _ => rfl
    refine ⟨fun k hk => ?_, reads, writes, flights, completions⟩
    obtain hk | rfl : k ∈ v.slots ∨ k = ⟨g, .read, n⟩ := by simpa using hk
    · exact slots k hk
    · exact if_pos rfl
  writes := law.writes.of_slots rfl rfl fun _ _ => by simp [List.countP_append, Parked.isWriteOf]

/-- A write that is parked, with its Untranslated entry (R91, R111). -/
theorem ViewLaw.parkWrite {e : WriteEntry} (state : e.state = .untranslated) (tag : e.tag = g)
    (room : v.writes.length < Config.writeQueueEntries) : ViewLaw { v with
      tag := fun y => if y = g then some .write else v.tag y
      slots := v.slots ++ [⟨g, .write, e.aperture⟩]
      writes := v.writes ++ [e] } where
  tags := by
    refine law.tags.takes free (MasterView.perm_of_counts (l := [g]) fun y => ?_) (fun _ => rfl) live
    simp [List.filter_append, WriteEntry.owes_of_hole state]; omega
  kinds := by
    obtain ⟨slots, reads, writes, flights, completions⟩ := law.kinds.takes law.tags free (k := .write) fun _ => rfl
    refine ⟨fun k hk => ?_, reads, fun x hx owes => ?_, flights, completions⟩
    · obtain hk | rfl : k ∈ v.slots ∨ k = ⟨g, .write, e.aperture⟩ := by simpa using hk
      · exact slots k hk
      · exact if_pos rfl
    · obtain hx | rfl : x ∈ v.writes ∨ x = e := by simpa using hx
      · exact writes x hx owes
      · rw [WriteEntry.owes_of_hole state] at owes; cases owes
  writes := law.writes.append rfl rfl (by simp [WriteEntry.isIssued, state])
    (fun y n => by simp [List.countP_append, List.countP_singleton, Parked.isWriteOf, WriteEntry.isHoleOf, state, tag]) room

end

/-! ## Accesses -/

/-- A read is granted: it leaves the list and is in flight (R117). -/
theorem ViewLaw.grantRead {v : MasterView} (law : ViewLaw v) {g : Tag} {reads : List Tag} (perm : v.reads.Perm (g :: reads)) :
    ViewLaw { v with reads := reads, flights := v.flights ++ [g] } where
  tags := by
    refine law.tags.of_perm (MasterView.perm_of_counts (l := []) fun y => ?_) rfl id
    simp [perm.count_eq, List.count_cons]; omega
  kinds := by
    obtain ⟨slots, inReads, writes, flights, completions⟩ := law.kinds
    refine ⟨slots, fun y hy => inReads y (perm.mem_iff.2 (List.mem_cons_of_mem _ hy)), writes, fun y hy => ?_, completions⟩
    obtain hy | rfl : y ∈ v.flights ∨ y = g := by simpa using hy
    · exact flights y hy
    · exact inReads y (perm.mem_iff.2 List.mem_cons_self)
  writes := law.writes.of_slots rfl rfl fun _ _ => rfl

/-- A write is granted: it becomes Issued in its place, behind the Issued ones (R114). -/
theorem ViewLaw.grantWrite {v : MasterView} (law : ViewLaw v) {e : WriteEntry} {p : PhysAddr} {front back : List WriteEntry}
    (state : e.state = .translated p) (split : v.writes = front ++ e :: back) (ahead : ∀ y ∈ front, y.isIssued = true) :
    ViewLaw { v with
      writes := front ++ { e with state := .issued p } :: back
      records := v.records ++ [(e.tag, e.aperture)] } where
  tags := by
    refine law.tags.of_perm (MasterView.perm_of_counts (l := []) fun y => ?_) rfl id
    simp [split, List.filter_append, List.filter_cons, WriteEntry.owes, WriteEntry.isItem, state]
    split <;> simp
  kinds := by
    obtain ⟨slots, reads, writes, flights, completions⟩ := law.kinds
    refine ⟨slots, reads, fun x hx owes => ?_, flights, completions⟩
    obtain hx | rfl | hx : x ∈ front ∨ x = { e with state := .issued p } ∨ x ∈ back := by simpa using hx
    · exact writes x (by simp [split, hx]) owes
    · exact writes e (by simp [split]) (by simpa [WriteEntry.owes, WriteEntry.isItem, state] using owes)
    · exact writes x (by simp [split, hx]) owes
  writes := by
    obtain ⟨holes, order, issued, room⟩ := law.writes
    simp only [split] at holes order issued room
    obtain ⟨fronts, tail, -⟩ := List.pairwise_append.1 order
    obtain ⟨behind, backs⟩ := List.pairwise_cons.1 tail
    have unissued (y) (hy : y ∈ back) : y.isIssued = false := by
      rw [Bool.eq_false_iff]
      intro h
      have := behind y hy h
      simp [WriteEntry.isIssued, state] at this
    refine ⟨fun g n => ?_, ?_, ?_, ?_⟩
    · rw [← holes g n]
      simp [List.countP_append, WriteEntry.isHoleOf, state]
    · exact List.pairwise_append.2 ⟨fronts, List.pairwise_cons.2 ⟨fun _ _ _ => rfl, backs⟩, fun x hx _ _ _ => ahead x hx⟩
    · have none : back.filter (·.isIssued) = [] := List.filter_eq_nil_iff.2 fun y hy => by simp [unissued y hy]
      rw [← issued]
      have before : e.isIssued = false := by simp [WriteEntry.isIssued, state]
      have after : ({ e with state := .issued p } : WriteEntry).isIssued = true := rfl
      simp [List.filter_append, none, before, after]
    · simpa using room

/-- A read in flight completes, or vanishes while its port is Resetting (R43, R132). -/
theorem ViewLaw.readDone {v : MasterView} (law : ViewLaw v) {g : Tag} {flights : List Tag} (oldest : v.flights = g :: flights)
    {x : CompletionStatus} (status : x ≠ .okayWrite) {completions : List Completion}
    (live : ¬ v.resetting → completions = v.completions ++ [⟨g, x⟩]) (resetting : v.resetting → completions = v.completions) :
    ViewLaw { v with flights := flights, completions := completions } := by
  have kinds : KindLaw { v with flights := flights } := law.kinds.subset rfl (.refl _) (.refl _) (.refl _)
    (by rw [oldest]; exact List.subset_cons_self _ _) (.refl _)
  by_cases port : v.resetting
  · obtain rfl := resetting port
    refine ⟨law.tags.of_sublist ?_ rfl port, kinds, law.writes.of_slots rfl rfl fun _ _ => rfl⟩
    simp only [MasterView.outstanding, oldest]
    exact List.Sublist.append (List.Sublist.append (.refl _) (List.sublist_cons_self _ _)) (.refl _)
  · obtain rfl := live port
    refine ⟨law.tags.of_perm (MasterView.perm_of_counts (l := []) fun y => ?_) rfl id, ?_, law.writes.of_slots rfl rfl fun _ _ => rfl⟩
    · simp [oldest, List.count_cons]; omega
    · exact kinds.appendCompletion (fun beats ok => law.kinds.flights g (by simp [oldest])) fun ok => absurd ok status

/-- The oldest Issued write completes, or vanishes while its port is Resetting; a posted one has completed before (R119,
R120, R133). -/
theorem ViewLaw.writeDone {v : MasterView} (law : ViewLaw v) {e : WriteEntry} {rest : List WriteEntry}
    {r : Tag × ApertureId} {records : List (Tag × ApertureId)} (head : v.writes = e :: rest) (issued : e.isIssued = true)
    (oldest : v.records = r :: records) {completions : List Completion}
    (owed : ¬ v.resetting → e.posted = false → ∃ x, (∀ beats, x ≠ .okayRead beats) ∧ completions = v.completions ++ [⟨e.tag, x⟩])
    (posted : v.resetting ∨ e.posted = true → completions = v.completions) :
    ViewLaw { v with writes := rest, records := records, completions := completions } := by
  have item : e.isItem = true := by
    obtain ⟨p, state⟩ := (WriteEntry.isIssued_iff e).1 issued
    simp [WriteEntry.isItem, state]
  have kinds : KindLaw { v with writes := rest, records := records } := law.kinds.subset rfl (.refl _) (.refl _)
    (by rw [head]; exact List.subset_cons_self _ _) (.refl _) (.refl _)
  have writes : OrderLaw { v with writes := rest, records := records, completions := completions } := by
    obtain ⟨holes, order, issuedRecords, room⟩ := law.writes
    rw [head] at order issuedRecords room
    refine ⟨fun g n => ?_, (List.pairwise_cons.1 order).2, ?_, (Nat.le_succ _).trans room⟩
    · have same := holes g n
      obtain ⟨p, state⟩ := (WriteEntry.isIssued_iff e).1 issued
      simpa [head, List.countP_cons, WriteEntry.isHoleOf, state] using same
    · rw [List.filter_cons_of_pos issued, List.map_cons, oldest] at issuedRecords
      exact (List.cons_eq_cons.1 issuedRecords).2
  by_cases quiet : v.resetting ∨ e.posted = true
  · obtain rfl := posted quiet
    refine ⟨?_, kinds, writes⟩
    obtain port | done := quiet
    · refine law.tags.of_sublist ?_ rfl port
      simp only [MasterView.outstanding, head]
      exact List.Sublist.append (List.Sublist.append (List.Sublist.append (.refl _)
        (((List.sublist_cons_self _ _).filter _).map _)) (.refl _)) (.refl _)
    · refine law.tags.of_perm (MasterView.perm_of_counts (l := []) fun y => ?_) rfl id
      simp [head, WriteEntry.owes, done]
  · obtain ⟨port, unposted⟩ := not_or.1 quiet
    rw [Bool.not_eq_true] at unposted
    obtain ⟨x, status, rfl⟩ := owed port unposted
    have owes : e.owes = true := by simp [WriteEntry.owes, item, unposted]
    refine ⟨law.tags.of_perm (MasterView.perm_of_counts (l := []) fun y => ?_) rfl id, ?_, writes⟩
    · simp [head, owes, List.count_cons]; omega
    · exact kinds.appendCompletion (fun beats ok => absurd ok (status beats))
        fun _ => law.kinds.writes e (by simp [head]) owes

/-- A completion is delivered and its tag becomes Free (R39). -/
theorem ViewLaw.accept {v : MasterView} (law : ViewLaw v) {c : Completion} {rest : List Completion}
    (offered : v.completions = c :: rest) : ViewLaw { v with
      tag := fun y => if y = c.tag then none else v.tag y
      completions := rest } := by
  have perm : v.outstanding.Perm (c.tag :: ({ v with completions := rest } : MasterView).outstanding) := by
    refine List.perm_iff_count.2 fun y => ?_
    rw [← List.singleton_append, List.count_append, MasterView.count_outstanding, MasterView.count_outstanding, offered]
    simp [List.count_cons]; omega
  obtain ⟨absent, distinct⟩ := List.nodup_cons.1 (perm.nodup_iff.1 law.tags.distinct)
  have other {y : Tag} (hy : y ∈ ({ v with completions := rest } : MasterView).outstanding) : y ≠ c.tag := by
    rintro rfl; exact absent hy
  have kinds : KindLaw { v with completions := rest } := law.kinds.subset rfl (.refl _) (.refl _) (.refl _) (.refl _)
    (by rw [offered]; exact List.subset_cons_self _ _)
  refine ⟨⟨distinct, fun y hy => ?_, fun live y used => ?_⟩, kinds.retag fun y hy => if_neg (other hy),
    law.writes.of_slots rfl rfl fun _ _ => rfl⟩
  · refine (congrArg Option.isSome (if_neg (other hy))).trans ?_
    exact law.tags.inUse y (perm.mem_iff.2 (List.mem_cons_of_mem _ hy))
  · dsimp only at used
    split at used
    · cases used
    · exact (List.mem_cons.1 (perm.mem_iff.1 (law.tags.settled live y used))).resolve_left (by assumption)

/-! ## Port Reset and resets -/

/-- A Port Reset leaves its master's issued accesses (R41). -/
theorem ViewLaw.sweep {v : MasterView} (law : ViewLaw v) : ViewLaw { v with
    slots := []
    reads := []
    writes := v.writes.filter (·.isIssued)
    completions := []
    resetting := True } where
  tags := by
    refine law.tags.of_sublist ?_ rfl trivial
    simp only [MasterView.outstanding, List.map_nil, List.nil_append, List.append_nil]
    refine List.Sublist.trans (List.Sublist.append ?_ (.refl _)) (List.sublist_append_left _ _)
    exact ((List.filter_sublist.filter _).map _).trans (List.sublist_append_right _ _)
  kinds := law.kinds.subset rfl (List.nil_subset _) (List.nil_subset _) List.filter_sublist.subset (.refl _) (List.nil_subset _)
  writes := by
    obtain ⟨holes, order, issued, room⟩ := law.writes
    refine ⟨fun g n => ?_, order.sublist List.filter_sublist, ?_, List.filter_sublist.length_le.trans room⟩
    · refine List.countP_eq_zero.2 fun e he => ?_
      obtain ⟨p, state⟩ := (WriteEntry.isIssued_iff e).1 (List.mem_filter.1 he).2
      simp [WriteEntry.isHoleOf, state]
    · simpa using issued

/-- A master with nothing in the part and every tag Free. -/
theorem ViewLaw.of_empty {v : MasterView} (slots : v.slots = []) (reads : v.reads = []) (writes : v.writes = [])
    (flights : v.flights = []) (records : v.records = []) (completions : v.completions = []) (tag : ∀ g, v.tag g = none) :
    ViewLaw v := by
  have none : v.outstanding = [] := by simp [MasterView.outstanding, slots, reads, writes, flights, completions]
  exact ⟨⟨by simp [none], by simp [none], fun _ g used => by simp [tag] at used⟩,
    ⟨by simp [slots], by simp [reads], by simp [writes], by simp [flights], by simp [completions]⟩,
    ⟨by simp [slots, writes], by simp [writes], by simp [writes, records], by simp [writes]⟩⟩

/-- A change of the entries in a field that the law does not look at. -/
theorem ViewLaw.map_writes {v : MasterView} (law : ViewLaw v) {f : WriteEntry → WriteEntry}
    (same : ∀ e, (f e).tag = e.tag ∧ (f e).aperture = e.aperture ∧ (f e).state = e.state ∧ (f e).posted = e.posted) :
    ViewLaw { v with writes := v.writes.map f } := by
  have tag (e) : (f e).tag = e.tag := (same e).1
  have aperture (e) : (f e).aperture = e.aperture := (same e).2.1
  have state (e) : (f e).state = e.state := (same e).2.2.1
  have posted (e) : (f e).posted = e.posted := (same e).2.2.2
  have owes (e) : (f e).owes = e.owes := by simp [WriteEntry.owes, WriteEntry.isItem, state, posted]
  have issued (e) : (f e).isIssued = e.isIssued := by simp [WriteEntry.isIssued, state]
  refine ⟨law.tags.of_perm (MasterView.perm_of_counts (l := []) fun y => ?_) rfl id, ?_, ?_⟩
  · simp [List.filter_map, Function.comp_def, owes, tag]
  · obtain ⟨slots, reads, writes, flights, completions⟩ := law.kinds
    refine ⟨slots, reads, fun x hx => ?_, flights, completions⟩
    obtain ⟨e, he, rfl⟩ := List.mem_map.1 hx
    rw [owes, tag]
    exact writes e he
  · obtain ⟨holes, order, inRecords, room⟩ := law.writes
    refine ⟨fun g n => ?_, ?_, ?_, by simpa using room⟩
    · have hole (e) : WriteEntry.isHoleOf g n (f e) = WriteEntry.isHoleOf g n e := by
        simp [WriteEntry.isHoleOf, tag, aperture, state]
      simp [List.countP_map, Function.comp_def, hole, holes g n]
    · simpa [List.pairwise_map, issued] using order
    · simpa [List.filter_map, Function.comp_def, issued, tag, aperture] using inRecords

end Sys2Proof.Machine

/-! PROOFS. The law of the requests, move by move and act by act, with what it says of the part (chapters 2, 5, 6). -/

namespace Sys2Proof.Machine

/-! ## Views that stay -/

/-- A change that the law of the requests does not see at master `m`. -/
theorem State.view_congr_iff {s t : State} {m : Master} (park : (t.park.filter (·.master = m)).map ParkSlot.parked =
      (s.park.filter (·.master = m)).map ParkSlot.parked) (queue : t.queue m = s.queue m) (flight : t.inFlight = s.inFlight)
    (completions : (t.port m).completions = (s.port m).completions) (tags : (t.port m).tags = (s.port m).tags)
    (state : (t.port m).state = .resetting ↔ (s.port m).state = .resetting) : t.view m = s.view m := by
  unfold State.view
  rw [park, queue, flight, completions, propext state,
    show (t.port m).tag = (s.port m).tag from funext fun g => by rw [Port.tag, Port.tag, tags]]

theorem State.view_congr {s t : State} {m : Master} (park : (t.park.filter (·.master = m)).map ParkSlot.parked =
      (s.park.filter (·.master = m)).map ParkSlot.parked) (queue : t.queue m = s.queue m) (flight : t.inFlight = s.inFlight)
    (completions : (t.port m).completions = (s.port m).completions) (tags : (t.port m).tags = (s.port m).tags)
    (state : (t.port m).state = (s.port m).state) : t.view m = s.view m :=
  State.view_congr_iff park queue flight completions tags (by rw [state])

theorem State.view_of_same {s t : State} (park : t.park = s.park) (queues : t.queues = s.queues)
    (flight : t.inFlight = s.inFlight) (ports : t.ports = s.ports) (m : Master) : t.view m = s.view m :=
  State.view_congr (by rw [park]) (by simp [State.queue, queues]) flight (by simp [State.port, ports])
    (by simp [State.port, ports]) (by simp [State.port, ports])

theorem RequestLaw.of_views {s t : State} (law : RequestLaw s) (park : ParkLaw t) (swept : SweptLaw t)
    (views : ∀ m, ViewLaw (s.view m) → ViewLaw (t.view m)) : RequestLaw t :=
  (requestLaw_iff t).2 ⟨park, swept, fun m => views m (((requestLaw_iff s).1 law).2.2 m)⟩

theorem ViewLaw.of_eq {v v' : MasterView} (law : ViewLaw v) (same : v' = v) : ViewLaw v' := same ▸ law

theorem RequestLaw.view {s : State} (law : RequestLaw s) (m : Master) : ViewLaw (s.view m) := ((requestLaw_iff s).1 law).2.2 m

/-- The slots change in fields that the law does not look at. -/
theorem parked_map (l : List ParkSlot) (m : Master) {f : ParkSlot → ParkSlot} (master : ∀ k, (f k).master = k.master)
    (parked : ∀ k, (f k).parked = k.parked) :
    ((l.map f).filter (·.master = m)).map ParkSlot.parked = (l.filter (·.master = m)).map ParkSlot.parked := by
  simp [List.filter_map, Function.comp_def, master, parked]

theorem Port.tag_congr {p q : Port} (same : p.tags = q.tags) : p.tag = q.tag := by
  funext g
  rw [Port.tag, Port.tag, same]

/-- The tags of a port whose other fields are written. -/
@[simp] theorem Port.tag_mk (p : Port) (e : Bool) (x : PortState) (c : List Completion) (a : Option Request) (n : Nat) :
    (Port.mk e x p.tags c a n).tag = p.tag := rfl

@[simp] theorem Port.tag_setTag_eq (p : Port) (t : Tag) (k : Option AccessKind) :
    (p.setTag t k).tag = fun y => if y = t then k else p.tag y :=
  funext fun y => Port.tag_setTag p t y k

@[simp] theorem Port.setTag_fields (p : Port) (t : Tag) (k : Option AccessKind) : (p.setTag t k).enable = p.enable ∧
    (p.setTag t k).state = p.state ∧ (p.setTag t k).completions = p.completions ∧
    (p.setTag t k).pendingArrival = p.pendingArrival ∧ (p.setTag t k).taken = p.taken :=
  ⟨rfl, rfl, rfl, rfl, rfl⟩

/-! ## Slots that are settled -/

/-- The slots of master `m` without the slot number `k`. -/
def State.slotsWithout (s : State) (k : SlotId) (m : Master) : List Parked :=
  ((s.park.filter (·.num != k)).filter (·.master = m)).map ParkSlot.parked

theorem ParkLaw.perm_filter {s : State} (law : ParkLaw s) {k : ParkSlot} (mem : k ∈ s.park) :
    s.park.Perm (k :: s.park.filter (·.num != k.num)) := by
  obtain ⟨front, back, split⟩ := List.append_of_mem mem
  have others : s.park.filter (·.num != k.num) = front ++ back := by
    have apart : s.park.Pairwise fun a b => a.num ≠ b.num := law
    rw [split] at apart ⊢
    obtain ⟨-, tail, ahead⟩ := List.pairwise_append.1 apart
    have fronts : front.filter (·.num != k.num) = front :=
      List.filter_eq_self.2 fun x hx => by simpa using ahead x hx k List.mem_cons_self
    have backs : back.filter (·.num != k.num) = back :=
      List.filter_eq_self.2 fun x hx => by simpa using ((List.pairwise_cons.1 tail).1 x hx).symm
    simp [fronts, backs]
  rw [others, split]
  exact List.perm_middle

theorem ParkLaw.perm_slots {s : State} (law : ParkLaw s) {k : ParkSlot} (mem : k ∈ s.park) :
    (s.view k.master).slots.Perm (k.parked :: s.slotsWithout k.num k.master) := by
  have perm := (((law.perm_filter mem).filter (·.master = k.master)).map ParkSlot.parked)
  simpa [State.view, State.slotsWithout] using perm

theorem ParkLaw.perm_slots_of_ne {s : State} (law : ParkLaw s) {k : ParkSlot} (mem : k ∈ s.park) {m : Master} (ne : m ≠ k.master) :
    (s.view m).slots.Perm (s.slotsWithout k.num m) := by
  have perm := (((law.perm_filter mem).filter (·.master = m)).map ParkSlot.parked)
  simpa [State.view, State.slotsWithout, Ne.symm ne] using perm

/-- A slot leaves the table with a completion that reports a failure, and a parked write's entry leaves with it. -/
theorem RequestLaw.settle {s u : State} (law : RequestLaw s) {k : ParkSlot} (mem : k ∈ s.park) {x : CompletionStatus}
    (failed : x.failed = true) (swept : SweptLaw u) (park : u.park = s.park.filter (·.num != k.num))
    (flight : u.inFlight = s.inFlight) (ports : ∀ j, u.port j = (pushCompletion k.master ⟨k.tag, x⟩ s).port j)
    (queues : ∀ j, u.queue j = if j = k.master ∧ k.kind = .write then
      { s.queue j with writes := (s.queue j).writes.eraseP (·.isHole k.tag) } else s.queue j) : RequestLaw u := by
  have live := law.swept.live_of_slot mem
  refine law.of_views (law.slots.of_sublist (by rw [park]; exact List.filter_sublist)) swept fun m view => ?_
  by_cases own : m = k.master
  · subst own
    have same : u.view k.master = { s.view k.master with
        slots := s.slotsWithout k.num k.master
        writes := if k.kind = .write then (s.view k.master).writes.eraseP (·.isHole k.tag) else (s.view k.master).writes
        completions := (s.view k.master).completions ++ [⟨k.tag, x⟩] } := by
      cases kind : k.kind <;>
        simp [State.view, State.slotsWithout, park, flight, ports, queues, pushCompletion_port, live, kind]
    rw [same]
    exact view.leave (law.slots.perm_slots mem) failed
  · have same : u.view m = { s.view m with slots := s.slotsWithout k.num m } := by
      simp [State.view, State.slotsWithout, park, flight, ports, queues, pushCompletion_port, own]
    rw [same]
    exact view.of_perm_slots (law.slots.perm_slots_of_ne mem own)

theorem RequestLaw.leaveSlot {s : State} (law : RequestLaw s) {k : ParkSlot} (mem : k ∈ s.park) {x : CompletionStatus}
    (failed : x.failed = true) : RequestLaw (leaveSlot k x s) :=
  law.settle mem failed ((Move.leave (o := s) s k x failed fun _ => mem).keeps_sweptLaw law.swept law.swept) (by simp) (by simp)
    (leaveSlot_port k x s) (leaveSlot_queue k x s)

theorem RequestLaw.abortSlot {s : State} (law : RequestLaw s) {k : ParkSlot} (mem : k ∈ s.park) : RequestLaw (abortSlot s k) :=
  law.settle mem (x := .aborted) rfl (law.swept.abortSlot k) (by simp) (by simp) (abortSlot_port k s) (abortSlot_queue k s)

theorem RequestLaw.passWaiter {s : State} (law : RequestLaw s) {k : ParkSlot} (mem : k ∈ s.park) (p : PhysAddr) :
    RequestLaw (passWaiter k p s) := by
  have live := law.swept.live_of_slot mem
  have move : Move s s (Machine.passWaiter k p s) := .pass s k p (fun _ => mem) fun _ => live
  refine law.of_views (move.keeps_parkLaw law.slots) (move.keeps_sweptLaw law.swept law.swept) fun m view => ?_
  by_cases own : m = k.master
  · subst own
    have perm := law.slots.perm_slots mem
    cases kind : k.kind with
    | read =>
      have same : (Machine.passWaiter k p s).view k.master = { s.view k.master with
          slots := s.slotsWithout k.num k.master, reads := (s.view k.master).reads ++ [k.tag] } := by
        simp [passWaiter_of_read kind, State.view, State.slotsWithout]
      rw [same]
      exact view.passRead perm kind
    | write =>
      have same : (Machine.passWaiter k p s).view k.master = { s.view k.master with
          slots := s.slotsWithout k.num k.master
          writes := updateFirst (·.isHole k.tag)
            (fun e => { e with state := .translated p, posted := (s.aperture k.aperture).posting }) (s.view k.master).writes
          completions := (s.view k.master).completions ++ okayIf (s.aperture k.aperture).posting k.tag } := by
        cases posting : (s.aperture k.aperture).posting <;>
          simp [passWaiter_of_write kind, State.view, State.slotsWithout, posting, postOkay, pushCompletion_port, live, okayIf]
      rw [same]
      exact view.passWrite perm kind p _
  · have same : (Machine.passWaiter k p s).view m = { s.view m with slots := s.slotsWithout k.num m } := by
      simp [State.view, State.slotsWithout, passWaiter_queue_of_ne own, passWaiter_port_of_ne own]
    rw [same]
    exact view.of_perm_slots (law.slots.perm_slots_of_ne mem own)

/-! ## Requests that are Taken -/

theorem Request.kind_of_read {r : Request} {beats : Nat} (body : r.body = .read beats) : r.kind = .read := by
  simp [Request.kind, body]

theorem Request.kind_of_write {r : Request} {beats : List WriteBeat} (body : r.body = .write beats) : r.kind = .write := by
  simp [Request.kind, body]

theorem Move.keeps_requestLaw {o s t : State} (move : Move o s t) (origin : RequestLaw o) (law : RequestLaw s) : RequestLaw t := by
  have park := move.keeps_parkLaw law.slots
  have swept := move.keeps_sweptLaw origin.swept law.swept
  have same (views : ∀ m, t.view m = s.view m) : RequestLaw t := law.of_views park swept fun m view => by rwa [views m]
  cases move with
  | leave k x failed mem => exact law.leaveSlot (mem origin.slots) failed
  | pass k p mem => exact law.passWaiter (mem origin.slots) p
  | join c n page =>
    refine same fun m => State.view_congr (parked_map _ m (fun k => ?_) fun k => ?_) rfl rfl rfl rfl rfl <;> split <;> rfl
  | tick =>
    refine same fun m => State.view_congr (parked_map _ m (fun k => ?_) fun k => ?_) rfl rfl rfl rfl rfl <;>
      unfold ParkSlot.tick <;> split <;> rfl
  | draw => exact same fun m => State.view_of_same rfl rfl rfl rfl m
  | takeFault m r n k takes =>
    refine law.of_views park swept fun j view => ?_
    by_cases own : j = m
    · subst own
      have same : (retire n (haltOnFault n (pushCompletion j ⟨r.tag, .fault k⟩ (admitRequest j r n s)))).view j = { s.view j with
          tag := fun y => if y = r.tag then some r.kind else (s.view j).tag y
          completions := (s.view j).completions ++ [⟨r.tag, .fault k⟩] } := by
        simp [State.view, pushCompletion_port, takes.live]
      rw [same]
      exact view.takeFault takes.free takes.live r.kind (.fault k) rfl
    · refine view.of_eq (State.view_congr (by simp) (by simp) (by simp) ?_ ?_ ?_) <;> simp [pushCompletion_port, own]
  | takeRead m r n arrival beats phys takes body =>
    refine law.of_views park swept fun j view => ?_
    by_cases own : j = m
    · subst own
      have same : (appendRead j ⟨r.tag, arrival, r.address, phys, beats, n, false⟩ (admitRequest j r n s)).view j =
          { s.view j with
            tag := fun y => if y = r.tag then some .read else (s.view j).tag y
            reads := (s.view j).reads ++ [r.tag] } := by
        simp [State.view, Request.kind_of_read body]
      rw [same]
      exact view.takeRead takes.free takes.live
    · exact view.of_eq (State.view_congr (by simp) (by simp [own]) (by simp) (by simp [own]) (by simp [own]) (by simp [own]))
  | takeWrite m r n arrival beats phys posting takes body =>
    refine law.of_views park swept fun j view => ?_
    by_cases own : j = m
    · subst own
      have same : (postOkay j r.tag posting (appendWrite j
            ⟨r.tag, arrival, r.address, beats, n, .translated phys, posting, false⟩ (admitRequest j r n s))).view j =
          { s.view j with
            tag := fun y => if y = r.tag then some .write else (s.view j).tag y
            writes := (s.view j).writes ++ [⟨r.tag, arrival, r.address, beats, n, .translated phys, posting, false⟩]
            completions := (s.view j).completions ++ okayIf posting r.tag } := by
        cases posting <;>
          simp [State.view, postOkay, pushCompletion_port, takes.live, Request.kind_of_write body, okayIf]
      rw [same]
      exact view.takeWrite takes.free takes.live rfl rfl (takes.room (Request.kind_of_write body))
    · refine view.of_eq (State.view_congr (by simp) (by simp [own]) (by simp) ?_ ?_ ?_) <;> simp [own, postOkay_port_of_ne]
  | takePark m r n num page arrival place takes free =>
    refine law.of_views park swept fun j view => ?_
    by_cases own : j = m
    · subst own
      cases body : r.body with
      | read beats =>
        have same : (addSlot (parkedSlot num j r n page arrival place s.parkTimeout)
              (leaveHole j r n arrival (admitRequest j r n s))).view j =
            { s.view j with
              tag := fun y => if y = r.tag then some .read else (s.view j).tag y
              slots := (s.view j).slots ++ [⟨r.tag, .read, n⟩] } := by
          simp [State.view, leaveHole_of_read body, Request.kind_of_read body, parkedSlot, ParkSlot.parked]
        rw [same]
        exact view.parkRead takes.free takes.live n
      | write beats =>
        have same : (addSlot (parkedSlot num j r n page arrival place s.parkTimeout)
              (leaveHole j r n arrival (admitRequest j r n s))).view j =
            { s.view j with
              tag := fun y => if y = r.tag then some .write else (s.view j).tag y
              slots := (s.view j).slots ++ [⟨r.tag, .write, n⟩]
              writes := (s.view j).writes ++ [⟨r.tag, arrival, r.address, beats, n, .untranslated, false, false⟩] } := by
          simp [State.view, leaveHole_of_write body, Request.kind_of_write body, parkedSlot, ParkSlot.parked]
        rw [same]
        exact view.parkWrite takes.free takes.live (e := ⟨r.tag, arrival, r.address, beats, n, .untranslated, false, false⟩)
          rfl rfl (takes.room (Request.kind_of_write body))
    · exact view.of_eq (State.view_congr (by simp [parkedSlot, Ne.symm own]) (by simp [leaveHole_queue_of_ne own]) (by simp)
        (by simp [own]) (by simp [own]) (by simp [own]))
  | _ => exact same (State.view_of_same (by simp) (by simp) (by simp) (by simp))

end Sys2Proof.Machine

/-! PROOFS. The law of the requests, act by act, and what it says of the part (chapters 2, 5, 6). -/

namespace Sys2Proof.Machine

/-! ## The in-flight list in the views -/

/-- A record that is no read and no write of any master does not show in a view. -/
theorem AccessRecord.unseen_of_none {x : AccessRecord} (none : x.item = none) (m : Master) :
    x.readTag m = Option.none ∧ x.writeKey m = Option.none := by
  cases x <;> first | exact ⟨rfl, rfl⟩ | cases none

/-- A change of the in-flight list that the views do not show. -/
theorem State.view_of_flights {s t : State} {m : Master} (park : t.park = s.park) (queue : t.queue m = s.queue m)
    (port : t.port m = s.port m) (reads : t.inFlight.filterMap (AccessRecord.readTag m) = s.inFlight.filterMap (AccessRecord.readTag m))
    (writes : t.inFlight.filterMap (AccessRecord.writeKey m) = s.inFlight.filterMap (AccessRecord.writeKey m)) :
    t.view m = s.view m := by
  unfold State.view
  rw [park, queue, port, reads, writes]

theorem RequestLaw.of_view_eq {s t : State} (law : RequestLaw s) (park : ParkLaw t) (swept : SweptLaw t)
    (views : ∀ m, t.view m = s.view m) : RequestLaw t :=
  law.of_views park swept fun m view => view.of_eq (views m)

theorem markItems_view (s : State) (m : Master) : (markItems s).view m = { s.view m with
    writes := (s.view m).writes.map fun e => if e.isItem then { e with counted := true } else e } := by
  have reads (x : AccessRecord) : x.mark.readTag m = x.readTag m := by cases x <;> rfl
  have writes (x : AccessRecord) : x.mark.writeKey m = x.writeKey m := by cases x <;> rfl
  unfold State.view
  rw [markItems_queue]
  simp only [markItems, IssueQueues.mark, List.filterMap_map, List.map_map, Function.comp_def, reads, writes]
  rfl

theorem RequestLaw.markItems {s : State} (law : RequestLaw s) : RequestLaw (markItems s) :=
  law.of_views ((Act.marks s).keeps_parkLaw law.slots) law.swept.markItems fun m view =>
    (view.map_writes fun e => by split <;> exact ⟨rfl, rfl, rfl, rfl⟩).of_eq (markItems_view s m)

/-! ## Memory completions -/

/-- The completion of a read as the port takes it. -/
theorem readDone_completions (r : ItemRecord) (res : BusResult) (s : State) : ∃ x : CompletionStatus, x ≠ .okayWrite ∧
    ∀ j, ((readDone r res s).port j) = (pushCompletion r.master ⟨r.tag, x⟩ s).port j := by
  cases res with
  | okay beats => exact ⟨.okayRead (beats.toList.take r.length), nofun, fun j => rfl⟩
  | error => exact ⟨.memoryError, nofun, fun j => by simp [Machine.readDone]⟩

theorem pushCompletion_port_congr {s t : State} (same : t.ports = s.ports) (m : Master) (c : Completion) (j : Master) :
    (pushCompletion m c t).port j = (pushCompletion m c s).port j := by
  have port (i : Master) : t.port i = s.port i := by rw [State.port, State.port, same]
  simp only [pushCompletion_port, port]

theorem pushCompletion_completions (m : Master) (c : Completion) (s : State) : ((pushCompletion m c s).port m).completions =
    if (s.port m).state = .resetting then (s.port m).completions else (s.port m).completions ++ [c] := by
  rw [pushCompletion_port]
  by_cases resetting : (s.port m).state = .resetting <;> simp [resetting]

theorem RequestLaw.readDone {s : State} (law : RequestLaw s) {r : ItemRecord} {rest : List AccessRecord}
    (oldest : s.inFlight = .read r :: rest) (res : BusResult) : RequestLaw (finishRead r res rest s) := by
  refine law.of_views ((Act.read s r res rest oldest).keeps_parkLaw law.slots)
    ((Act.read s r res rest oldest).keeps_sweptLaw law.swept) fun m view => ?_
  obtain ⟨x, status, port⟩ := readDone_completions r res { s with inFlight := rest }
  by_cases own : m = r.master
  · subst own
    have same : (finishRead r res rest s).view r.master = { s.view r.master with
        flights := rest.filterMap (AccessRecord.readTag r.master)
        completions := ((pushCompletion r.master ⟨r.tag, x⟩ { s with inFlight := rest }).port r.master).completions } := by
      simp [State.view, finishRead, port, oldest, List.filterMap_cons, AccessRecord.writeKey, Port.tag_congr (pushCompletion_port_fields _ _ _ _).2.1]
    rw [same]
    refine view.readDone (g := r.tag) (by simp [State.view, oldest, List.filterMap_cons, AccessRecord.readTag]) status (fun live => ?_) fun resetting => ?_
    · rw [pushCompletion_completions, if_neg (by exact live)]; rfl
    · rw [pushCompletion_completions, if_pos (by exact resetting)]; rfl
  · refine view.of_eq (State.view_of_flights (by simp [finishRead]) (by simp [finishRead]) ?_ ?_ ?_)
    · simp [finishRead, port, pushCompletion_port, own]
    · simp [finishRead, oldest, AccessRecord.readTag, Ne.symm own]
    · simp [finishRead, oldest, List.filterMap_cons, AccessRecord.writeKey]

/-- The completion of a write whose entry heads its queue: it has left, and an unposted one has its completion (R119, R120). -/
theorem writeDone_of_head {r : ItemRecord} {s : State} {e : WriteEntry} {rest : List WriteEntry}
    (head : (s.queue r.master).writes = e :: rest) (issued : e.isIssued = true) (res : BusResult) :
    (∀ j, (writeDone r res s).queue j = if j = r.master then { s.queue r.master with writes := rest } else s.queue j) ∧
    (e.posted = true → ∀ j, (writeDone r res s).port j = s.port j) ∧
    (e.posted = false → ∃ x : CompletionStatus, (∀ beats, x ≠ .okayRead beats) ∧
      ∀ j, (writeDone r res s).port j = (pushCompletion r.master ⟨e.tag, x⟩ s).port j) := by
  simp only [writeDone, head, issued, if_true]
  cases posted : e.posted with
  | true => cases res <;> simp
  | false =>
    cases res with
    | okay beats =>
      exact ⟨by simp, by simp, fun _ => ⟨.okayWrite, nofun, fun j => pushCompletion_port_congr (by rfl) _ _ j⟩⟩
    | error =>
      refine ⟨by simp, by simp, fun _ => ⟨.memoryError, nofun, fun j => ?_⟩⟩
      exact ((reportMemory_accessors _ _ _ _).2.1 j).trans (pushCompletion_port_congr (by rfl) _ _ j)

/-- The oldest write record of a master is that of the Issued entry at the head of its queue (R114, R119). -/
theorem ViewLaw.head_of_record {v : MasterView} (law : ViewLaw v) {r : Tag × ApertureId} {records : List (Tag × ApertureId)}
    (oldest : v.records = r :: records) : ∃ e rest, v.writes = e :: rest ∧ e.isIssued = true ∧ (e.tag, e.aperture) = r := by
  obtain ⟨-, order, issued, -⟩ := law.writes
  rw [oldest] at issued
  cases writes : v.writes with
  | nil => simp [writes] at issued
  | cons e rest =>
    rw [writes] at order issued
    have own : e.isIssued = true := by
      obtain ⟨x, hx, -⟩ : ∃ x ∈ (e :: rest).filter (·.isIssued), (x.tag, x.aperture) = r :=
        List.mem_map.1 (by rw [issued]; exact List.mem_cons_self)
      obtain ⟨hx, h⟩ := List.mem_filter.1 hx
      obtain rfl | hx := List.mem_cons.1 hx
      · exact h
      · exact (List.pairwise_cons.1 order).1 x hx h
    rw [List.filter_cons_of_pos own, List.map_cons] at issued
    exact ⟨e, rest, rfl, own, (List.cons_eq_cons.1 issued).1⟩

theorem RequestLaw.writeDone {s : State} (law : RequestLaw s) {r : ItemRecord} {rest : List AccessRecord}
    (oldest : s.inFlight = .write r :: rest) (res : BusResult) : RequestLaw (finishWrite r res rest s) := by
  refine law.of_views ((Act.write s r res rest oldest).keeps_parkLaw law.slots)
    ((Act.write s r res rest oldest).keeps_sweptLaw law.swept) fun m view => ?_
  have records : (s.view r.master).records = (r.tag, r.aperture) :: rest.filterMap (AccessRecord.writeKey r.master) := by
    simp [State.view, oldest, List.filterMap_cons, AccessRecord.writeKey]
  obtain ⟨e, entries, head, issued, -⟩ := (law.view r.master).head_of_record records
  obtain ⟨queues, posted, owed⟩ := writeDone_of_head (s := { s with inFlight := rest }) head issued res
  by_cases own : m = r.master
  · subst own
    have same : (finishWrite r res rest s).view r.master = { s.view r.master with
        writes := entries
        records := rest.filterMap (AccessRecord.writeKey r.master)
        completions := ((Machine.writeDone r res { s with inFlight := rest }).port r.master).completions } := by
      have tag : ((Machine.writeDone r res { s with inFlight := rest }).port r.master).tag = (s.port r.master).tag := by
        cases unposted : e.posted with
        | true => rw [posted unposted]; rfl
        | false =>
          obtain ⟨x, -, port⟩ := owed unposted
          rw [port]
          exact Port.tag_congr (pushCompletion_port_fields _ _ _ _).2.1
      have state := (writeDone_samePort r res { s with inFlight := rest } r.master).1
      simp [State.view, finishWrite, queues, oldest, List.filterMap_cons, AccessRecord.readTag, tag, state]
    rw [same]
    refine view.writeDone head issued records (fun live unposted => ?_) fun quiet => ?_
    · obtain ⟨x, status, port⟩ := owed unposted
      refine ⟨x, status, ?_⟩
      rw [port, pushCompletion_completions, if_neg (by exact live)]; rfl
    · cases unposted : e.posted with
      | true => rw [posted unposted]; rfl
      | false =>
        obtain ⟨x, -, port⟩ := owed unposted
        rw [port, pushCompletion_completions, if_pos (by exact quiet.resolve_right (by simp [unposted]))]; rfl
  · refine view.of_eq (State.view_of_flights (by simp [finishWrite]) (by simp [finishWrite, queues, own]) ?_ ?_ ?_)
    · cases unposted : e.posted with
      | true => simp [finishWrite, posted unposted]
      | false =>
        obtain ⟨x, -, port⟩ := owed unposted
        simp [finishWrite, port, pushCompletion_port, own]
    · simp [finishWrite, oldest, List.filterMap_cons, AccessRecord.readTag]
    · simp [finishWrite, oldest, AccessRecord.writeKey, Ne.symm own]

/-! ## Grants -/

theorem RequestLaw.grantRead {s : State} (law : RequestLaw s) {m : Master} {e : ReadEntry}
    (room : s.inFlight.length < Config.maxInFlight) (mem : e ∈ (s.queue m).reads) : RequestLaw (grantRead m e s) := by
  refine law.of_views law.slots ((Act.grantRead s m e room mem).keeps_sweptLaw law.swept) fun j view => ?_
  by_cases own : j = m
  · subst own
    have same : (Machine.grantRead j e s).view j = { s.view j with
        reads := ((s.queue j).reads.erase e).map (·.tag), flights := (s.view j).flights ++ [e.tag] } := by
      have flights : (Machine.grantRead j e s).inFlight.filterMap (AccessRecord.readTag j) = (s.view j).flights ++ [e.tag] := by
        simp [Machine.grantRead, issue, emit, AccessRecord.readTag, State.view]
      have records : (Machine.grantRead j e s).inFlight.filterMap (AccessRecord.writeKey j) = (s.view j).records := by
        simp [Machine.grantRead, issue, emit, AccessRecord.writeKey, State.view]
      unfold State.view
      rw [grantRead_queue, if_pos rfl, flights, records]
      rfl
    rw [same]
    exact view.grantRead (g := e.tag) ((List.perm_cons_erase mem).map ReadEntry.tag)
  · refine view.of_eq (State.view_of_flights rfl (by rw [grantRead_queue, if_neg own]) rfl ?_ ?_) <;>
      simp [Machine.grantRead, issue, emit, AccessRecord.readTag, AccessRecord.writeKey, Ne.symm own]

theorem RequestLaw.grantWrite {s : State} (law : RequestLaw s) {m : Master} {e : WriteEntry}
    (room : s.inFlight.length < Config.maxInFlight) (eligible : (s.queue m).eligibleWrite = some e) :
    RequestLaw (grantWrite m e s) := by
  refine law.of_views law.slots ((Act.grantWrite s m e room eligible).keeps_sweptLaw law.swept) fun j view => ?_
  by_cases own : j = m
  · subst own
    obtain ⟨p, front, back, state, split, ahead, issued⟩ := IssueQueues.issue_of_eligible eligible
    have same : (Machine.grantWrite j e s).view j = { s.view j with
        writes := front ++ { e with state := .issued p } :: back
        records := (s.view j).records ++ [(e.tag, e.aperture)] } := by
      have flights : (Machine.grantWrite j e s).inFlight.filterMap (AccessRecord.readTag j) = (s.view j).flights := by
        simp [Machine.grantWrite, issue, emit, AccessRecord.readTag, State.view]
      have records : (Machine.grantWrite j e s).inFlight.filterMap (AccessRecord.writeKey j) =
          (s.view j).records ++ [(e.tag, e.aperture)] := by
        simp [Machine.grantWrite, issue, emit, AccessRecord.writeKey, State.view]
      unfold State.view
      rw [grantWrite_queue, if_pos rfl, issued, flights, records]
      rfl
    rw [same]
    exact view.grantWrite state split ahead
  · refine view.of_eq (State.view_of_flights rfl (by rw [grantWrite_queue, if_neg own]) rfl ?_ ?_) <;>
      simp [Machine.grantWrite, issue, emit, AccessRecord.readTag, AccessRecord.writeKey, Ne.symm own]

/-! ## Port Reset -/

/-- A Resetting port's master with no access in flight has nothing left in the part. -/
theorem RequestLaw.view_of_drained {s : State} (law : RequestLaw s) {m : Master} (resetting : (s.port m).state = .resetting)
    (none : s.hasAccess m = false) : (s.view m).slots = [] ∧ (s.view m).reads = [] ∧ (s.view m).writes = [] ∧
      (s.view m).flights = [] ∧ (s.view m).records = [] ∧ (s.view m).completions = [] := by
  obtain ⟨slots, reads, issued, completions⟩ := law.swept m resetting
  have apart : ∀ x ∈ s.inFlight, x.ofMaster m = false := by
    rw [State.hasAccess_eq] at none
    simpa using none
  have flights : (s.view m).flights = [] := List.filterMap_eq_nil_iff.2 fun x hx => by
    have := apart x hx
    cases x <;> simp_all [AccessRecord.readTag, AccessRecord.ofMaster, AccessRecord.item]
  have records : (s.view m).records = [] := List.filterMap_eq_nil_iff.2 fun x hx => by
    have := apart x hx
    cases x <;> simp_all [AccessRecord.writeKey, AccessRecord.ofMaster, AccessRecord.item]
  have writes : (s.view m).writes = [] := by
    have pairs := (law.view m).writes.issued
    have all : (s.view m).writes.filter (·.isIssued) = (s.view m).writes := List.filter_eq_self.2 issued
    rw [records, all] at pairs
    exact List.map_eq_nil_iff.1 pairs
  exact ⟨by simpa [State.view] using slots, by simp [State.view, reads], writes, flights, records, completions⟩

theorem RequestLaw.portResetTest {s : State} (law : RequestLaw s) (m : Master) : RequestLaw (portResetTest m s) := by
  by_cases due : (s.port m).state = .resetting ∧ s.hasAccess m = false
  · have ended : Machine.portResetTest m s = endPortReset m s := by simp [Machine.portResetTest, due]
    have swept := law.swept.portResetTest m
    rw [ended] at swept ⊢
    refine law.of_views law.slots swept fun j view => ?_
    by_cases own : j = m
    · subst own
      obtain ⟨slots, reads, writes, flights, records, completions⟩ := law.view_of_drained due.1 due.2
      refine .of_empty slots reads writes flights records ?_ fun g => ?_
      · simpa [State.view, endPortReset] using completions
      · simp [State.view, endPortReset, Port.tag]
    · exact view.of_eq (State.view_of_flights rfl rfl (by simp [endPortReset, own]) rfl rfl)
  · have still : Machine.portResetTest m s = s := by
      unfold Machine.portResetTest
      rw [if_neg]
      simpa using due
    rwa [still]

theorem RequestLaw.sweep {s : State} (law : RequestLaw s) (m : Master) : RequestLaw (sweep m s) := by
  refine law.of_views (law.slots.of_sublist List.filter_sublist) (law.swept.sweep m) fun j view => ?_
  by_cases own : j = m
  · subst own
    have same : (Machine.sweep j s).view j = { s.view j with
        slots := [], reads := [], writes := (s.view j).writes.filter (·.isIssued), completions := [], resetting := True } := by
      unfold State.view
      rw [sweep_queue, sweep_port, sweep_park]
      simp [List.filter_filter, Machine.sweep]
    rw [same]
    exact view.sweep
  · refine view.of_eq (State.view_congr ?_ (by rw [sweep_queue, if_neg own]) rfl (by rw [sweep_port, if_neg own])
      (by rw [sweep_port, if_neg own]) (by rw [sweep_port, if_neg own]))
    rw [sweep_park, List.filter_filter]
    congr 1
    refine List.filter_congr fun k _ => ?_
    by_cases h : k.master = j <;> simp [h, own]

/-! ## Every act -/

theorem Act.keeps_requestLaw {s t : State} (act : Act s t) (law : RequestLaw s) : RequestLaw t := by
  have same (views : ∀ m, t.view m = s.view m) : RequestLaw t :=
    law.of_view_eq (act.keeps_parkLaw law.slots) (act.keeps_sweptLaw law.swept) views
  have dropped {x : AccessRecord} {rest : List AccessRecord} (oldest : s.inFlight = x :: rest) (none : x.item = none)
      (park : t.park = s.park) (queues : t.queues = s.queues) (ports : t.ports = s.ports) (left : t.inFlight = rest) :
      RequestLaw t := by
    refine same fun m => State.view_of_flights park (by simp [State.queue, queues]) (by simp [State.port, ports]) ?_ ?_ <;>
      simp [left, oldest, AccessRecord.unseen_of_none none m]
  cases act with
  | moves reach => exact reach.keep law fun _ _ move => move.keeps_requestLaw law
  | marks => exact law.markItems
  | drops x rest oldest none => exact dropped oldest none rfl rfl rfl rfl
  | walkRead c n p w rest oldest => exact dropped oldest rfl rfl rfl rfl rfl
  | read r res rest oldest => exact law.readDone oldest res
  | write r res rest oldest => exact law.writeDone oldest res
  | ends m => exact law.portResetTest m
  | accepts m c rest offered =>
    refine law.of_views law.slots ((Act.accepts s m c rest offered).keeps_sweptLaw law.swept) fun j view => ?_
    by_cases own : j = m
    · subst own
      have same : (s.setPort j { (s.port j).setTag c.tag none with completions := rest }).view j = { s.view j with
          tag := fun y => if y = c.tag then none else (s.view j).tag y, completions := rest } := by
        simp [State.view]
      rw [same]
      exact view.accept offered
    · exact view.of_eq (State.view_of_flights rfl rfl (by simp [own]) rfl rfl)
  | grantWalk c w t room walks =>
    refine same fun m => State.view_of_flights ?_ ?_ ?_ ?_ ?_ <;>
      simp [Machine.grantWalk, walks, issue, emit, AccessRecord.readTag, AccessRecord.writeKey] <;> rfl
  | grantRead m e room mem => exact law.grantRead room mem
  | grantWrite m e room eligible => exact law.grantWrite room eligible
  | fences | emits | invalidates => exact same (State.view_of_same rfl rfl rfl rfl)

theorem HostAct.keeps_requestLaw {b b' : Bool} {s t : State} (act : HostAct b b' s t) (law : RequestLaw s) : RequestLaw t := by
  have same (views : ∀ m, t.view m = s.view m) : RequestLaw t :=
    law.of_view_eq (act.keeps_parkLaw law.slots) (act.keeps_sweptLaw law.swept) views
  cases act with
  | opens n =>
    obtain ⟨-, -, h⟩ | ⟨-, -, h⟩ | ⟨-, h⟩ := openCommand_cases n s <;>
      exact law.of_same (by rw [h]; rfl) (by rw [h]; rfl) (by rw [h]; rfl) (by rw [h]; rfl)
  | closes n =>
    exact closeCommand_keeps (P := RequestLaw) (law.of_same rfl rfl rfl rfl) (fun _ _ => law.of_same rfl rfl rfl rfl)
      (fun _ => law.of_same rfl rfl rfl rfl) (fun u k h _ mem => h.abortSlot (mem law.slots))
      fun u h => h.of_same (by simp) (by simp) (by simp) (by simp)
  | halts n => obtain ⟨-, h⟩ | ⟨-, h⟩ := haltCommand_cases n s <;> rw [h] <;> exact law.of_same rfl rfl rfl rfl
  | resumes n => obtain ⟨-, h⟩ | ⟨-, h⟩ := resumeCommand_cases n s <;> rw [h] <;> exact law.of_same rfl rfl rfl rfl
  | describes n w v => unfold writeDescriptor; dsimp only; split <;> exact law.of_same rfl rfl rfl rfl
  | enablesPort m e =>
    refine same fun j => State.view_congr_iff rfl rfl rfl ?_ ?_ ?_
    · by_cases own : j = m <;> simp [storeEnable, own]
    · by_cases own : j = m <;> simp [storeEnable, own]
    · simp only [storeEnable, State.port_setPort]
      split
      · rename_i own
        rw [own]
        by_cases resetting : (s.port m).state = .resetting
        · simp [resetting]
        · cases e <;> simp [resetting]
      · rfl
  | sweeps m live => exact foldl_retire_keeps (fun u n h => h.of_same (by simp) (by simp) (by simp) (by simp)) _ _ (law.sweep m)
  | presents m x =>
    refine same fun j => State.view_congr rfl rfl rfl ?_ ?_ ?_ <;> by_cases own : j = m <;> simp [own]
  | _ => exact law.of_same rfl rfl rfl rfl

/-- After a reset a port has no completion, and every tag is Free (R28, R46). -/
theorem ResetAct.port_completions {s t : State} (act : ResetAct s t) (m : Master) : (t.port m).completions = [] := by
  obtain h | h := act.port_eq m <;> rw [h] <;> rfl

theorem ResetAct.port_tag {s t : State} (act : ResetAct s t) (m : Master) (g : Tag) : (t.port m).tag g = none := by
  obtain h | h := act.port_eq m <;> rw [h] <;> simp [Port.tag, Port.afterReset, Port.held, Port.reset]

/-- After a reset every master's view is empty. -/
theorem ResetAct.keeps_requestLaw {s t : State} (act : ResetAct s t) : RequestLaw t := by
  have discarded := act.inFlight.1
  have flights (m : Master) : t.inFlight.filterMap (AccessRecord.readTag m) = [] :=
    List.filterMap_eq_nil_iff.2 fun x hx => by rw [discarded x hx]; rfl
  have records (m : Master) : t.inFlight.filterMap (AccessRecord.writeKey m) = [] :=
    List.filterMap_eq_nil_iff.2 fun x hx => by rw [discarded x hx]; rfl
  refine (requestLaw_iff t).2 ⟨by simp [ParkLaw, act.park_eq_nil], act.keeps_sweptLaw, fun m => ?_⟩
  refine .of_empty (by simp [State.view, act.park_eq_nil]) ?_ ?_ (flights m) (records m) ?_ ?_
  · exact congrArg (fun q : IssueQueues => q.reads.map (·.tag)) (act.queue_eq_empty m)
  · exact congrArg IssueQueues.writes (act.queue_eq_empty m)
  · exact act.port_completions m
  · exact act.port_tag m

theorem step_keeps_requestLaw {s t : State} (done : step s = .next t) (law : RequestLaw s) : RequestLaw t :=
  step_keeps done law (fun _ _ h => h.of_same rfl rfl rfl rfl) (fun _ _ act => act.keeps_requestLaw)
    (fun _ _ act => act.keeps_requestLaw) fun _ _ act _ => act.keeps_requestLaw

/-! ## What the law says -/

theorem length_le_four {l : List Tag} (distinct : l.Nodup) : l.length ≤ 4 := by
  simpa using distinct.length_le_card

theorem ViewLaw.sublist_nodup {v : MasterView} (law : ViewLaw v) {l : List Tag} (part : l.Sublist v.outstanding) : l.Nodup :=
  part.nodup law.tags.distinct

theorem MasterView.completions_sublist (v : MasterView) : (v.completions.map (·.tag)).Sublist v.outstanding :=
  List.sublist_append_right _ _

theorem MasterView.reads_sublist (v : MasterView) : v.reads.Sublist v.outstanding := by
  unfold MasterView.outstanding
  simp only [List.append_assoc]
  exact (List.sublist_append_left _ _).trans (List.sublist_append_right _ _)

/-- No two busy slots of a master name one tag (R90). -/
theorem RequestLaw.slots_apart {s : State} (law : RequestLaw s) :
    s.park.Pairwise fun a b => ¬ (a.master = b.master ∧ a.tag = b.tag) := by
  have own (m : Master) : s.park.Pairwise fun a b => a.master = m → b.master = m → a.tag ≠ b.tag := by
    have distinct := (law.view m).tags.slots_nodup
    simp only [State.view, List.map_map, List.Nodup, List.pairwise_map, List.pairwise_filter, decide_eq_true_eq] at distinct
    exact distinct
  refine List.pairwise_iff_forall_sublist.2 fun {a b} part same => ?_
  exact List.pairwise_iff_forall_sublist.1 (own a.master) part rfl same.1.symm same.2

/-- Settles O11: each law is kept act by act, and the bounds are those of distinct slot numbers and of distinct tags. -/
theorem slotsAccessesAndRecordsStayBounded : Obligations.SlotsAccessesAndRecordsStayBounded := by
  refine ⟨fun s t done => ⟨fun law => ?_, step_keeps_inFlightLaw done, step_keeps_logLaw done, step_keeps_requestLaw done⟩,
    fun s law => ⟨fun k hk => by simp [law.parkedKinds k hk], law.slots_apart, fun m => ⟨fun c hc => ⟨?_, ?_⟩, ?_, ?_, ?_, ?_⟩⟩⟩
  · have kept := step_keeps_parkLaw done law
    exact ⟨kept, kept.length_le⟩
  · exact (law.view m).tags.inUse c.tag ((s.view m).completions_sublist.subset (List.mem_map_of_mem hc))
  · exact (law.completionKinds m c hc).1
  · exact List.pairwise_map.1 ((law.view m).sublist_nodup (s.view m).completions_sublist)
  · simpa [State.view] using length_le_four ((law.view m).sublist_nodup (s.view m).completions_sublist)
  · simpa [State.view] using length_le_four ((law.view m).sublist_nodup (s.view m).reads_sublist)
  · exact law.room m

end Sys2Proof.Machine

/-! PROOFS. The in-flight counts are the numbers of requests that have not retired (section 1.5). -/

namespace Sys2Proof.Machine

/-! ## The requests of an aperture -/

/-- The parked reads of an aperture. -/
def State.parkedReads (s : State) (n : ApertureId) : Nat := s.park.countP fun k => k.kind = .read ∧ k.aperture = n

/-- The entries of an aperture in a master's queues. -/
def IssueQueues.entriesOf (n : ApertureId) (q : IssueQueues) : Nat :=
  q.writes.countP (·.aperture = n) + q.reads.countP (·.aperture = n)

/-- A read record of an aperture. -/
def AccessRecord.readsOf (n : ApertureId) : AccessRecord → Bool
  | .read r => r.aperture = n
  | .discarded | .walk _ _ _ | .write _ => false

theorem State.unretired_eq (s : State) (n : ApertureId) : s.unretired n =
    s.parkedReads n + (allMasters.map fun m => (s.queue m).entriesOf n).sum + s.inFlight.countP (AccessRecord.readsOf n) := by
  have flights : s.inFlight.countP (AccessRecord.readsOf n) = s.inFlight.countP (fun x => match x with
      | .read r => r.aperture = n
      | .discarded | .walk _ _ _ | .write _ => false) :=
    List.countP_congr fun x _ => by cases x <;> rfl
  rw [State.unretired, flights]
  rfl

/-- A change at one master's queues, with what it does to the number of requests of an aperture. -/
theorem State.unretired_of_one {s t : State} {m : Master} {n : ApertureId} {lost won : Nat}
    (others : ∀ j, j ≠ m → t.queue j = s.queue j)
    (own : t.parkedReads n + (t.queue m).entriesOf n + t.inFlight.countP (AccessRecord.readsOf n) + lost =
      s.parkedReads n + (s.queue m).entriesOf n + s.inFlight.countP (AccessRecord.readsOf n) + won) :
    t.unretired n + lost = s.unretired n + won := by
  have sums := sum_masters_of_one (f := fun j => (t.queue j).entriesOf n) (g := fun j => (s.queue j).entriesOf n) (m := m)
    fun j other => by rw [others j other]
  rw [State.unretired_eq, State.unretired_eq]
  omega

/-! ## The counts after the shared operations -/

@[simp] theorem haltOnFault_count (n : ApertureId) (s : State) (j : ApertureId) :
    ((haltOnFault n s).aperture j).count = (s.aperture j).count := by
  rw [haltOnFault_aperture]
  split
  · rename_i h; rw [h.1]
  · rfl

@[simp] theorem closeNow_count (n : ApertureId) (s : State) (j : ApertureId) :
    ((closeNow n s).aperture j).count = (s.aperture j).count := by
  rw [closeNow_aperture]
  split
  · rename_i h; rw [h]
  · rfl

@[simp] theorem drainTest_count (n : ApertureId) (s : State) (j : ApertureId) :
    ((drainTest n s).aperture j).count = (s.aperture j).count := by
  unfold drainTest
  split <;> simp

theorem lowerCount_count (n : ApertureId) (s : State) (j : ApertureId) :
    ((lowerCount n s).aperture j).count = (s.aperture j).count - if j = n then 1 else 0 := by
  rw [lowerCount_aperture]
  split
  · rename_i h; rw [h]
  · rfl

theorem retire_count (n : ApertureId) (s : State) (j : ApertureId) :
    ((retire n s).aperture j).count = (s.aperture j).count - if j = n then 1 else 0 := by
  rw [retire, drainTest_count, lowerCount_count]

theorem admitRequest_count (m : Master) (r : Request) (n : ApertureId) (s : State) (j : ApertureId) :
    ((admitRequest m r n s).aperture j).count = (s.aperture j).count + if j = n then 1 else 0 := by
  rw [admitRequest_aperture]
  split
  · rename_i h; rw [h]
  · rfl

/-- As many requests have retired of each aperture as its count has fallen by. -/
theorem CountLaw.retires {s t : State} (law : CountLaw s) {k : ApertureId → Nat}
    (counts : ∀ n, (t.aperture n).count = (s.aperture n).count - k n)
    (left : ∀ n, t.unretired n + k n = s.unretired n) : CountLaw t := by
  intro n
  rw [counts, law n, ← left n]
  omega

theorem CountLaw.admits {s t : State} (law : CountLaw s) {k : ApertureId → Nat}
    (counts : ∀ n, (t.aperture n).count = (s.aperture n).count + k n)
    (joined : ∀ n, t.unretired n = s.unretired n + k n) : CountLaw t := by
  intro n
  rw [counts, law n, joined n]

/-! ## Slots that are settled -/

theorem ParkLaw.parkedReads_filter {s u : State} (law : ParkLaw s) {k : ParkSlot} (mem : k ∈ s.park)
    (park : u.park = s.park.filter (·.num != k.num)) (n : ApertureId) :
    u.parkedReads n + (if k.kind = .read ∧ k.aperture = n then 1 else 0) = s.parkedReads n := by
  unfold State.parkedReads
  rw [(law.perm_filter mem).countP_eq, List.countP_cons, park]
  simp

/-- The entry of a parked write is of the write's aperture, so that its leaving counts where its slot's does. -/
theorem RequestLaw.entries_eraseHole {s : State} (law : RequestLaw s) {k : ParkSlot} (mem : k ∈ s.park) (kind : k.kind = .write)
    (n : ApertureId) :
    IssueQueues.entriesOf n ⟨(s.queue k.master).reads, (s.queue k.master).writes.eraseP (·.isHole k.tag)⟩ +
      (if k.aperture = n then 1 else 0) = (s.queue k.master).entriesOf n := by
  have held : k.parked ∈ (s.view k.master).slots := List.mem_map_of_mem (List.mem_filter.2 ⟨mem, by simp⟩)
  obtain ⟨front, e, back, split, -, -, aperture, erased, -⟩ := (law.view k.master).hole_of_slot held kind
  change (s.queue k.master).writes = _ at split
  change (s.queue k.master).writes.eraseP (·.isHole k.tag) = _ at erased
  change e.aperture = k.aperture at aperture
  simp only [IssueQueues.entriesOf]
  rw [erased, split]
  simp only [List.countP_append, List.countP_cons, aperture, decide_eq_true_eq]
  omega

theorem RequestLaw.entries_translate {s : State} (law : RequestLaw s) {k : ParkSlot} (mem : k ∈ s.park) (kind : k.kind = .write)
    (p : PhysAddr) (posted : Bool) (n : ApertureId) :
    IssueQueues.entriesOf n ⟨(s.queue k.master).reads, updateFirst (·.isHole k.tag)
      (fun e => { e with state := .translated p, posted := posted }) (s.queue k.master).writes⟩ =
        (s.queue k.master).entriesOf n := by
  have held : k.parked ∈ (s.view k.master).slots := List.mem_map_of_mem (List.mem_filter.2 ⟨mem, by simp⟩)
  obtain ⟨front, e, back, split, -, -, -, -, updated⟩ := (law.view k.master).hole_of_slot held kind
  change (s.queue k.master).writes = _ at split
  change ∀ f, updateFirst (·.isHole k.tag) f (s.queue k.master).writes = _ at updated
  simp only [IssueQueues.entriesOf]
  rw [updated, split]
  simp only [List.countP_append, List.countP_cons]

/-- A slot that leaves takes one request of its aperture with it. -/
theorem RequestLaw.unretired_settle {s u : State} (law : RequestLaw s) {k : ParkSlot} (mem : k ∈ s.park)
    (park : u.park = s.park.filter (·.num != k.num)) (flight : u.inFlight = s.inFlight)
    (queues : ∀ j, u.queue j = if j = k.master ∧ k.kind = .write then
      { s.queue j with writes := (s.queue j).writes.eraseP (·.isHole k.tag) } else s.queue j) (n : ApertureId) :
    u.unretired n + (if n = k.aperture then 1 else 0) = s.unretired n := by
  refine State.unretired_of_one (m := k.master) (won := 0) (fun j other => by simp [queues, other]) ?_
  have slots := law.slots.parkedReads_filter mem park n
  rw [flight, queues]
  cases kind : k.kind with
  | read =>
    simp only [kind, true_and] at slots
    simp only [reduceCtorEq, and_false, if_false, eq_comm (a := n)]
    omega
  | write =>
    have entries := law.entries_eraseHole mem kind n
    simp only [kind, reduceCtorEq, false_and, if_false] at slots
    simp only [and_self, if_true, eq_comm (a := n)]
    omega

theorem CountLaw.leaveSlot {s : State} (law : CountLaw s) (requests : RequestLaw s) {k : ParkSlot} (mem : k ∈ s.park)
    (x : CompletionStatus) : CountLaw (leaveSlot k x s) :=
  law.retires (k := fun n => if n = k.aperture then 1 else 0)
    (fun n => by simp [Machine.leaveSlot, retire_count])
    (requests.unretired_settle mem (by simp) (by simp) (leaveSlot_queue k x s))

theorem CountLaw.abortSlot {s : State} (law : CountLaw s) (requests : RequestLaw s) {k : ParkSlot} (mem : k ∈ s.park) :
    CountLaw (abortSlot s k) :=
  law.retires (k := fun n => if n = k.aperture then 1 else 0)
    (fun n => by simp [Machine.abortSlot, lowerCount_count])
    (requests.unretired_settle mem (by simp) (by simp) (abortSlot_queue k s))

theorem CountLaw.of_unretired {s t : State} (law : CountLaw s) (counts : ∀ n, (t.aperture n).count = (s.aperture n).count)
    (same : ∀ n, t.unretired n = s.unretired n) : CountLaw t :=
  law.admits (k := fun _ => 0) counts same

theorem passWaiter_count (k : ParkSlot) (p : PhysAddr) (s : State) (n : ApertureId) :
    ((passWaiter k p s).aperture n).count = (s.aperture n).count := by simp

theorem CountLaw.passWaiter {s : State} (law : CountLaw s) (requests : RequestLaw s) {k : ParkSlot} (mem : k ∈ s.park)
    (p : PhysAddr) : CountLaw (passWaiter k p s) := by
  refine law.of_unretired (by simp) fun n => ?_
  refine State.unretired_of_one (m := k.master) (lost := 0) (won := 0) (fun j other => passWaiter_queue_of_ne other p s) ?_
  have slots := requests.slots.parkedReads_filter mem (passWaiter_park k p s) n
  cases kind : k.kind with
  | read =>
    have queue : ((Machine.passWaiter k p s).queue k.master).entriesOf n = (s.queue k.master).entriesOf n +
        if k.aperture = n then 1 else 0 := by
      simp [passWaiter_of_read kind, IssueQueues.entriesOf, List.countP_append, Nat.add_assoc]
    simp only [kind, true_and] at slots
    simp only [passWaiter_frame]
    omega
  | write =>
    have queue : ((Machine.passWaiter k p s).queue k.master).entriesOf n = (s.queue k.master).entriesOf n := by
      rw [← requests.entries_translate mem kind p (s.aperture k.aperture).posting n]
      simp [passWaiter_of_write kind]
    simp only [kind, reduceCtorEq, false_and, if_false] at slots
    simp only [passWaiter_frame]
    omega

/-! ## Every move -/

theorem Move.keeps_countLaw {o s t : State} (move : Move o s t) (origin : RequestLaw o) (requests : RequestLaw s)
    (law : CountLaw s) : CountLaw t := by
  cases move with
  | leave k x failed mem => exact law.leaveSlot requests (mem origin.slots) x
  | pass k p mem => exact law.passWaiter requests (mem origin.slots) p
  | join c n page =>
    refine law.of_unretired (fun _ => rfl) fun j => ?_
    rw [State.unretired_eq, State.unretired_eq]
    have slots : (joinQueued c n page s).parkedReads j = s.parkedReads j := by
      simp only [State.parkedReads, joinQueued, List.countP_map]
      refine List.countP_congr fun k _ => ?_
      simp only [Function.comp_apply]
      split <;> rfl
    rw [slots]; rfl
  | tick =>
    refine law.of_unretired (fun _ => rfl) fun n => ?_
    rw [State.unretired_eq, State.unretired_eq]
    have slots : State.parkedReads { s with park := s.park.map ParkSlot.tick } n = s.parkedReads n := by
      simp only [State.parkedReads, List.countP_map]
      refine List.countP_congr fun k _ => ?_
      simp only [Function.comp_apply, ParkSlot.tick]
      split <;> rfl
    rw [slots]; rfl
  | takeFault m r n k =>
    refine law.of_same (by simp) (by simp) (by simp) fun j => ?_
    simp only [retire_count, haltOnFault_count, pushCompletion_accessors, admitRequest_count]
    omega
  | takeRead m r n arrival beats phys =>
    refine law.admits (k := fun j => if j = n then 1 else 0) (fun j => ?_) fun j => ?_
    · rw [(appendRead_accessors _ _ _).1, admitRequest_count]
    · refine State.unretired_of_one (m := m) (lost := 0) (fun i other => by simp [other]) ?_
      simp [State.parkedReads, IssueQueues.entriesOf, List.countP_append, eq_comm (a := j)]
      omega
  | takeWrite m r n arrival beats phys posting =>
    refine law.admits (k := fun j => if j = n then 1 else 0) (fun j => ?_) fun j => ?_
    · rw [(postOkay_accessors _ _ _ _).1, (appendWrite_accessors _ _ _).1, admitRequest_count]
    · refine State.unretired_of_one (m := m) (lost := 0) (fun i other => by simp [other]) ?_
      simp [State.parkedReads, IssueQueues.entriesOf, List.countP_append, eq_comm (a := j)]
      omega
  | takePark m r n num page arrival place =>
    refine law.admits (k := fun j => if j = n then 1 else 0) (fun j => ?_) fun j => ?_
    · rw [(addSlot_accessors _ _).1, (leaveHole_accessors _ _ _ _ _).1, admitRequest_count]
    · refine State.unretired_of_one (m := m) (lost := 0) (fun i other => by simp [leaveHole_queue_of_ne other]) ?_
      cases body : r.body with
      | read beats =>
        simp [State.parkedReads, leaveHole_of_read body, parkedSlot, Request.kind_of_read body, List.countP_append,
          List.countP_singleton, eq_comm (a := j)]
        omega
      | write beats =>
        simp [State.parkedReads, leaveHole_of_write body, parkedSlot, Request.kind_of_write body, List.countP_append,
          IssueQueues.entriesOf, eq_comm (a := j)]
        omega
  | draw => exact law.of_same rfl rfl rfl fun _ => rfl
  | _ => exact law.of_same (by simp) (by simp) (by simp) (by simp)

/-! ## Every act -/

theorem markItems_unretired (s : State) (n : ApertureId) : (markItems s).unretired n = s.unretired n := by
  have queues (m : Master) : ((markItems s).queue m).entriesOf n = (s.queue m).entriesOf n := by
    have writes (e : WriteEntry) : (if e.isItem then { e with counted := true } else e : WriteEntry).aperture = e.aperture := by
      split <;> rfl
    rw [markItems_queue]
    simp only [IssueQueues.entriesOf, IssueQueues.mark, List.countP_map, Function.comp_def, writes]
  have flights (x : AccessRecord) : x.mark.readsOf n = x.readsOf n := by cases x <;> rfl
  rw [State.unretired_eq, State.unretired_eq, sum_masters_congr queues]
  simp only [markItems, List.countP_map, Function.comp_def, flights, State.parkedReads]

/-- A record leaves that is no read. -/
theorem countP_readsOf_cons {x : AccessRecord} (none : ∀ r, x ≠ .read r) (rest : List AccessRecord) (n : ApertureId) :
    (x :: rest).countP (AccessRecord.readsOf n) = rest.countP (AccessRecord.readsOf n) := by
  cases x with
  | read r => exact absurd rfl (none r)
  | _ => simp [AccessRecord.readsOf]

theorem CountLaw.finishRead {s : State} (law : CountLaw s) {r : ItemRecord} {rest : List AccessRecord}
    (oldest : s.inFlight = .read r :: rest) (res : BusResult) : CountLaw (finishRead r res rest s) := by
  refine law.retires (k := fun n => if n = r.aperture then 1 else 0) (fun n => ?_) fun n => ?_
  · rw [Machine.finishRead, retire_count]
    simp
  · refine State.unretired_of_one (m := 0) (won := 0) (fun j _ => by simp [Machine.finishRead]) ?_
    simp only [Machine.finishRead, oldest, List.countP_cons, AccessRecord.readsOf, decide_eq_true_eq, eq_comm (a := n)]
    simp [State.parkedReads]
    omega

theorem CountLaw.finishWrite {s : State} (law : CountLaw s) (requests : RequestLaw s) {r : ItemRecord}
    {rest : List AccessRecord} (oldest : s.inFlight = .write r :: rest) (res : BusResult) :
    CountLaw (finishWrite r res rest s) := by
  have records : (s.view r.master).records = (r.tag, r.aperture) :: rest.filterMap (AccessRecord.writeKey r.master) := by
    simp [State.view, oldest, AccessRecord.writeKey]
  obtain ⟨e, entries, head, issued, key⟩ := (requests.view r.master).head_of_record records
  have aperture : e.aperture = r.aperture := congrArg Prod.snd key
  change (s.queue r.master).writes = _ at head
  obtain ⟨queues, -, -⟩ := writeDone_of_head (s := { s with inFlight := rest }) head issued res
  refine law.retires (k := fun n => if n = r.aperture then 1 else 0) (fun n => ?_) fun n => ?_
  · rw [Machine.finishWrite, retire_count]
    simp
  · refine State.unretired_of_one (m := r.master) (won := 0) (fun j other => by simp [Machine.finishWrite, queues, other]) ?_
    have entry : ((Machine.finishWrite r res rest s).queue r.master).entriesOf n + (if r.aperture = n then 1 else 0) =
        (s.queue r.master).entriesOf n := by
      simp only [Machine.finishWrite, retire_accessors, queues, if_true, IssueQueues.entriesOf, head, List.countP_cons, aperture,
        decide_eq_true_eq, State.accessors_inFlight]
      omega
    have flights : (Machine.finishWrite r res rest s).inFlight = rest := by simp [Machine.finishWrite]
    have park : (Machine.finishWrite r res rest s).parkedReads n = s.parkedReads n := by
      simp [State.parkedReads, Machine.finishWrite]
    rw [flights, park, oldest, countP_readsOf_cons fun _ => by simp]
    simp only [eq_comm (a := n)]
    omega

theorem CountLaw.grantRead {s : State} (law : CountLaw s) {m : Master} {e : ReadEntry} (mem : e ∈ (s.queue m).reads) :
    CountLaw (grantRead m e s) := by
  refine law.of_unretired (fun _ => rfl) fun n => ?_
  refine State.unretired_of_one (m := m) (lost := 0) (won := 0) (fun j other => by rw [grantRead_queue, if_neg other]) ?_
  have entries := countP_erase_of_mem mem fun x : ReadEntry => decide (x.aperture = n)
  have flights : (Machine.grantRead m e s).inFlight.countP (AccessRecord.readsOf n) =
      s.inFlight.countP (AccessRecord.readsOf n) + if e.aperture = n then 1 else 0 := by
    simp [Machine.grantRead, issue, emit, List.countP_append, List.countP_singleton, AccessRecord.readsOf]
  have park : (Machine.grantRead m e s).parkedReads n = s.parkedReads n := rfl
  rw [flights, park, grantRead_queue, if_pos rfl]
  simp only [decide_eq_true_eq] at entries
  simp only [IssueQueues.entriesOf]
  omega

theorem CountLaw.grantWrite {s : State} (law : CountLaw s) {m : Master} {e : WriteEntry}
    (eligible : (s.queue m).eligibleWrite = some e) : CountLaw (grantWrite m e s) := by
  obtain ⟨p, front, back, state, split, ahead, issued⟩ := IssueQueues.issue_of_eligible eligible
  refine law.of_unretired (fun _ => rfl) fun n => ?_
  refine State.unretired_of_one (m := m) (lost := 0) (won := 0) (fun j other => by rw [grantWrite_queue, if_neg other]) ?_
  have flights : (Machine.grantWrite m e s).inFlight.countP (AccessRecord.readsOf n) =
      s.inFlight.countP (AccessRecord.readsOf n) := by
    simp [Machine.grantWrite, issue, emit, List.countP_append, AccessRecord.readsOf]
  have park : (Machine.grantWrite m e s).parkedReads n = s.parkedReads n := rfl
  rw [flights, park, grantWrite_queue, if_pos rfl]
  simp only [IssueQueues.entriesOf]
  rw [issued, split]
  simp only [List.countP_append, List.countP_cons]

/-- A reach keeps the law of the requests at every point, and with it the law of the counts. -/
theorem Reach.keeps_counts {s t : State} (reach : Reach s t) (requests : RequestLaw s) (law : CountLaw s) : CountLaw t :=
  (reach.keep (P := fun u => RequestLaw u ∧ CountLaw u) ⟨requests, law⟩ fun _ _ move h =>
    ⟨move.keeps_requestLaw requests h.1, move.keeps_countLaw requests h.1 h.2⟩).2

theorem Act.keeps_countLaw {s t : State} (act : Act s t) (requests : RequestLaw s) (law : CountLaw s) : CountLaw t := by
  have dropped {x : AccessRecord} {rest : List AccessRecord} (oldest : s.inFlight = x :: rest) (none : ∀ r, x ≠ .read r)
      (apertures : t.apertures = s.apertures) (park : t.park = s.park) (queues : t.queues = s.queues)
      (left : t.inFlight = rest) : CountLaw t := by
    refine law.of_unretired (fun n => by simp [State.aperture, apertures]) fun n => ?_
    rw [State.unretired_eq, State.unretired_eq, left, oldest, countP_readsOf_cons none]
    simp [State.parkedReads, State.queue, park, queues]
  cases act with
  | moves reach => exact reach.keeps_counts requests law
  | marks => exact law.of_unretired (fun _ => rfl) (markItems_unretired s)
  | drops x rest oldest none => exact dropped oldest (by rintro r rfl; cases none) rfl rfl rfl rfl
  | walkRead c n p w rest oldest => exact dropped oldest nofun rfl rfl rfl rfl
  | read r res rest oldest => exact law.finishRead oldest res
  | write r res rest oldest => exact law.finishWrite requests oldest res
  | ends m => exact law.of_same (by simp) (by simp) (by simp) (by simp)
  | grantWalk c w t room walks =>
    refine law.of_unretired (fun n => by simp [Machine.grantWalk, walks]) fun n => ?_
    rw [State.unretired_eq, State.unretired_eq]
    simp [Machine.grantWalk, walks, issue, emit, State.parkedReads, AccessRecord.readsOf]
    rfl
  | grantRead m e room mem => exact law.grantRead mem
  | grantWrite m e room eligible => exact law.grantWrite eligible
  | fences | emits | invalidates | accepts => exact law.of_same rfl rfl rfl fun _ => rfl

/-! ## Port Reset -/

/-- The Untranslated entries of a master are those of its parked writes, aperture by aperture (R88). -/
theorem OrderLaw.holes_of_aperture {v : MasterView} (law : OrderLaw v) (n : ApertureId) :
    v.writes.countP (fun e => e.state = .untranslated ∧ e.aperture = n) =
      v.slots.countP fun k => k.kind = .write ∧ k.aperture = n := by
  have perm : ((v.writes.filter (·.state = .untranslated)).map fun e => (e.tag, e.aperture)).Perm
      ((v.slots.filter (·.kind = .write)).map fun k => (k.tag, k.aperture)) := by
    refine List.perm_iff_count.2 fun ⟨g, n⟩ => ?_
    rw [List.count_eq_countP, List.count_eq_countP, List.countP_map, List.countP_map, List.countP_filter, List.countP_filter]
    refine Eq.trans (List.countP_congr fun e _ => ?_) ((law.holes g n).trans (List.countP_congr fun k _ => ?_))
    · simp [WriteEntry.isHoleOf, and_comm]
    · simp [Parked.isWriteOf, and_comm]
  have counts := perm.countP_eq fun x => decide (x.2 = n)
  rw [List.countP_map, List.countP_map, List.countP_filter, List.countP_filter] at counts
  refine Eq.trans (List.countP_congr fun e _ => ?_) (counts.trans (List.countP_congr fun k _ => ?_))
  · simp [and_comm]
  · simp [and_comm]

theorem foldl_retire_count (l : List ApertureId) (s : State) (n : ApertureId) :
    ((l.foldl (fun t n => Machine.retire n t) s).aperture n).count = (s.aperture n).count - l.countP (· = n) := by
  induction l generalizing s with
  | nil => simp
  | cons j l ih =>
    rw [List.foldl_cons, ih, retire_count, List.countP_cons]
    simp only [decide_eq_true_eq, eq_comm (a := n)]
    omega

/-- A master's parked slots of an aperture, by kind. -/
theorem countP_slots_split (l : List ParkSlot) (m : Master) (n : ApertureId) :
    ((l.filter (·.master = m)).map (·.aperture)).countP (· = n) =
      (l.countP fun k => k.master = m ∧ k.kind = .read ∧ k.aperture = n) +
      (l.countP fun k => k.master = m ∧ k.kind = .write ∧ k.aperture = n) := by
  induction l with
  | nil => rfl
  | cons k l ih =>
    cases kind : k.kind <;> by_cases own : k.master = m <;> simp_all [List.countP_cons] <;> omega

theorem parkedReads_sweep (m : Master) (s : State) (n : ApertureId) : (sweep m s).parkedReads n +
    (s.park.countP fun k => k.master = m ∧ k.kind = .read ∧ k.aperture = n) = s.parkedReads n := by
  simp only [State.parkedReads, sweep_park]
  induction s.park with
  | nil => rfl
  | cons k l ih =>
    by_cases own : k.master = m <;> simp_all [List.countP_cons] <;> omega

/-- A write-order queue holds Issued, Untranslated and Translated entries. -/
theorem countP_writes_split (l : List WriteEntry) (n : ApertureId) : l.countP (·.aperture = n) =
    (l.filter (·.isIssued)).countP (·.aperture = n) + (l.countP fun e => e.state = .untranslated ∧ e.aperture = n) +
      ((l.filter (·.isTranslated)).map (·.aperture)).countP (· = n) := by
  induction l with
  | nil => rfl
  | cons e l ih =>
    cases state : e.state <;> simp_all [List.countP_cons, WriteEntry.isIssued, WriteEntry.isTranslated] <;> omega

/-- The requests that a Port Reset recalls are those whose apertures it retires (R41, R121). -/
theorem RequestLaw.unretired_sweep {s : State} (law : RequestLaw s) (m : Master) (n : ApertureId) :
    (Machine.sweep m s).unretired n + (s.sweptApertures m).countP (· = n) = s.unretired n := by
  refine State.unretired_of_one (m := m) (won := 0) (fun j other => by rw [sweep_queue, if_neg other]) ?_
  have reads := parkedReads_sweep m s n
  have slots := countP_slots_split s.park m n
  have writes := countP_writes_split (s.queue m).writes n
  have holes : (s.queue m).writes.countP (fun e => e.state = .untranslated ∧ e.aperture = n) =
      s.park.countP fun k => k.master = m ∧ k.kind = .write ∧ k.aperture = n := by
    have same := (law.view m).writes.holes_of_aperture n
    simp only [State.view, List.countP_map, List.countP_filter] at same
    refine same.trans (List.countP_congr fun k _ => ?_)
    rw [Bool.and_eq_true, Function.comp_apply, decide_eq_true_eq, decide_eq_true_eq, decide_eq_true_eq]
    exact and_comm
  have recalled : ((s.queue m).reads.map (·.aperture)).countP (· = n) = (s.queue m).reads.countP (·.aperture = n) := by
    rw [List.countP_map]; rfl
  have flight : (Machine.sweep m s).inFlight = s.inFlight := rfl
  rw [flight, sweep_queue, if_pos rfl]
  simp only [IssueQueues.entriesOf, State.sweptApertures, List.countP_append, List.countP_nil]
  omega

theorem CountLaw.sweeps {s : State} (law : CountLaw s) (requests : RequestLaw s) (m : Master) :
    CountLaw ((s.sweptApertures m).foldl (fun t n => Machine.retire n t) (sweep m s)) := by
  refine law.retires (k := fun n => (s.sweptApertures m).countP (· = n)) (fun n => foldl_retire_count _ _ n) fun n => ?_
  rw [← requests.unretired_sweep m n]
  congr 1
  have flight := foldl_retire_keeps (P := fun u => u.inFlight = s.inFlight) (by simp) (s.sweptApertures m) (sweep m s) rfl
  have queues := foldl_retire_keeps (P := fun u => u.queues = (sweep m s).queues) (by simp) (s.sweptApertures m) (sweep m s) rfl
  exact State.unretired_congr (foldl_retire_park _ _) queues flight

/-! ## The host and the resets -/

theorem HostAct.keeps_countLaw {b b' : Bool} {s t : State} (act : HostAct b b' s t) (requests : RequestLaw s)
    (law : CountLaw s) : CountLaw t := by
  have one {n : ApertureId} {a : Aperture} (same : a.count = (s.aperture n).count) : CountLaw (s.setAperture n a) :=
    law.of_same rfl rfl rfl fun j => by
      rw [State.aperture_setAperture]
      split
      · rename_i own; rw [own, same]
      · rfl
  have refused (n : ApertureId) : CountLaw (refuseCommand n s) := (one (a := { s.aperture n with lastResult := .badState }) rfl).of_same
    rfl rfl rfl fun _ => rfl
  cases act with
  | opens n =>
    obtain ⟨-, -, h⟩ | ⟨-, -, h⟩ | ⟨-, h⟩ := openCommand_cases n s <;> rw [h]
    · exact one rfl
    · exact (one (a := { s.aperture n with lastResult := s.openCheck n }) rfl).of_same rfl rfl rfl fun _ => rfl
    · exact refused n
  | closes n =>
    refine (closeCommand_keeps (P := fun u => RequestLaw u ∧ CountLaw u) ⟨requests.of_same rfl rfl rfl rfl, refused n⟩
      (fun _ _ => ⟨requests.of_same rfl rfl rfl rfl, ?_⟩) (fun _ => ⟨requests.of_same rfl rfl rfl rfl, one rfl⟩)
      (fun u k h _ mem => ⟨h.1.abortSlot (mem requests.slots), h.2.abortSlot h.1 (mem requests.slots)⟩)
      fun u h => ⟨h.1.of_same (by simp) (by simp) (by simp) (by simp), h.2.of_same (by simp) (by simp) (by simp) (by simp)⟩).2
    exact (one (a := { s.aperture n with lastResult := .closed }) rfl).of_same rfl rfl rfl (closeNow_count n _)
  | halts n =>
    obtain ⟨-, h⟩ | ⟨-, h⟩ := haltCommand_cases n s <;> rw [h]
    · exact (one (n := n) (a := { s.aperture n with state := .halted, lastResult := .halted }) rfl).of_same rfl rfl rfl fun _ => rfl
    · exact refused n
  | resumes n =>
    obtain ⟨-, h⟩ | ⟨-, h⟩ := resumeCommand_cases n s <;> rw [h]
    · exact one rfl
    · exact refused n
  | describes n w v =>
    simp only [writeDescriptor]
    split
    · exact one (by cases w <;> rfl)
    · exact law.of_same rfl rfl rfl fun _ => rfl
  | sweeps m live => exact law.sweeps requests m
  | _ => exact law.of_same rfl rfl rfl fun _ => rfl

theorem ResetAct.count_eq_zero {s t : State} (act : ResetAct s t) (n : ApertureId) : (t.aperture n).count = 0 := by
  have zero (pass : Bool) : ((aperturesAfterReset pass)[n]).count = 0 := by
    rw [aperturesAfterReset_get]; split <;> rfl
  cases act with
  | softReset => simpa [State.aperture, Machine.softReset] using zero s.passLatched
  | holds => exact zero false
  | releases pass => simpa [State.aperture, release] using zero pass

theorem ResetAct.keeps_countLaw {s t : State} (act : ResetAct s t) : CountLaw t := by
  intro n
  have flights : t.inFlight.countP (AccessRecord.readsOf n) = 0 :=
    List.countP_eq_zero.2 fun x hx => by rw [act.inFlight.1 x hx]; simp [AccessRecord.readsOf]
  rw [act.count_eq_zero, State.unretired_eq, State.parkedReads, act.park_eq_nil, flights,
    sum_masters_congr fun m => by rw [act.queue_eq_empty m]]
  rfl

theorem step_keeps_countLaw {s t : State} (done : step s = .next t) (requests : RequestLaw s) (law : CountLaw s) : CountLaw t :=
  (step_keeps (P := fun u => RequestLaw u ∧ CountLaw u) done ⟨requests, law⟩
    (fun _ _ h => ⟨h.1.of_same rfl rfl rfl rfl, h.2.of_same rfl rfl rfl fun _ => rfl⟩)
    (fun _ _ act h => ⟨act.keeps_requestLaw h.1, act.keeps_countLaw h.1 h.2⟩)
    (fun _ _ act h => ⟨act.keeps_requestLaw h.1, act.keeps_countLaw h.1 h.2⟩)
    fun _ _ act _ => ⟨act.keeps_requestLaw, act.keeps_countLaw⟩).2

/-! ## The bound of 48 -/

/-- A sum over the masters, each part of it bounded. -/
theorem sum_masters_le {f : Master → Nat} {b : Nat} (bound : ∀ m, f m ≤ b) : (allMasters.map f).sum ≤ 6 * b := by
  simp only [allMasters, List.map_cons, List.map_nil, List.sum_cons, List.sum_nil]
  have := bound 0; have := bound 1; have := bound 2; have := bound 3; have := bound 4; have := bound 5
  omega

theorem sum_masters_add (f g : Master → Nat) :
    (allMasters.map fun m => f m + g m).sum = (allMasters.map f).sum + (allMasters.map g).sum := by
  simp only [allMasters, List.map_cons, List.map_nil, List.sum_cons, List.sum_nil]
  omega

theorem sum_masters_eq (f : Master → Nat) : (allMasters.map f).sum = ∑ m, f m := by
  rw [Fin.sum_univ_six]
  simp only [allMasters, List.map_cons, List.map_nil, List.sum_cons, List.sum_nil]
  omega

/-- The elements of a list that are sorted among the masters are no more than all of the masters have. -/
theorem countP_le_sum_masters {α β : Type} (p : α → Bool) (f : Master → α → Option β)
    (sorted : ∀ x, p x = true → ∃ m, (f m x).isSome = true) (l : List α) :
    l.countP p ≤ (allMasters.map fun m => (l.filterMap (f m)).length).sum := by
  induction l with
  | nil => exact Nat.zero_le _
  | cons x l ih =>
    have parts (m : Master) : ((x :: l).filterMap (f m)).length = (if (f m x).isSome then 1 else 0) + (l.filterMap (f m)).length := by
      cases h : f m x <;> simp [h, Nat.add_comm]
    rw [sum_masters_congr parts, sum_masters_add]
    rw [List.countP_cons]
    split
    · rename_i own
      obtain ⟨m, some⟩ := sorted x own
      have one : 1 ≤ (allMasters.map fun m => if (f m x).isSome then 1 else 0).sum := by
        rw [sum_masters_eq]
        refine le_trans ?_ (Finset.single_le_sum (f := fun m => if (f m x).isSome then 1 else 0) (fun _ _ => Nat.zero_le _)
          (Finset.mem_univ m))
        simp [some]
      omega
    · omega

/-- A master's outstanding requests are of distinct tags, so at most 4. -/
theorem ViewLaw.places_le {v : MasterView} (law : ViewLaw v) : v.slots.length + v.reads.length + v.flights.length ≤ 4 := by
  have bound := length_le_four law.tags.distinct
  simp only [MasterView.outstanding, List.length_append, List.length_map] at bound
  omega

/-- At most 4 requests of a master in its slots, its read list and in flight, and 4 in its write-order queue (R24). -/
theorem RequestLaw.unretired_le {s : State} (law : RequestLaw s) (n : ApertureId) : s.unretired n ≤ 48 := by
  have parked : s.parkedReads n ≤ (allMasters.map fun m => (s.view m).slots.length).sum := by
    have sorted := countP_le_sum_masters (fun k : ParkSlot => decide (k.kind = .read ∧ k.aperture = n))
      (fun m k => if k.master = m then some k.parked else none) (fun k _ => ⟨k.master, by simp⟩) s.park
    refine sorted.trans_eq (sum_masters_congr fun m => congrArg List.length ?_)
    simp only [State.view]
    induction s.park with
    | nil => rfl
    | cons k l ih => by_cases own : k.master = m <;> simp [own, ih]
  have flying : s.inFlight.countP (AccessRecord.readsOf n) ≤ (allMasters.map fun m => (s.view m).flights.length).sum := by
    refine countP_le_sum_masters _ (fun m => AccessRecord.readTag m) (fun x own => ?_) s.inFlight
    cases x with
    | read r => exact ⟨r.master, by simp [AccessRecord.readTag]⟩
    | _ => cases own
  have each (m : Master) : (s.view m).slots.length + (s.view m).flights.length + (s.queue m).entriesOf n ≤ 8 := by
    have places := (law.view m).places_le
    have room : (s.queue m).writes.length ≤ 4 := (law.view m).writes.room
    have writes := List.countP_le_length (p := fun e : WriteEntry => decide (e.aperture = n)) (l := (s.queue m).writes)
    have reads := List.countP_le_length (p := fun e : ReadEntry => decide (e.aperture = n)) (l := (s.queue m).reads)
    have length : (s.view m).reads.length = (s.queue m).reads.length := by simp [State.view]
    simp only [IssueQueues.entriesOf]
    omega
  have total := sum_masters_le each
  rw [sum_masters_add, sum_masters_add] at total
  rw [State.unretired_eq]
  omega

end Sys2Proof.Machine

/-! PROOFS. A drain ends in the event that brings its condition about, and goes to Closed alone (section 1.4). -/

namespace Sys2Proof.Machine

/-! ## The drain condition -/

/-- No walk is busy for aperture `n`. -/
def State.quiet (s : State) (n : ApertureId) : Prop := ∀ c w, s.context c = some w → w.aperture ≠ n

/-- No slot of aperture `n` is Queued. -/
def State.unqueued (s : State) (n : ApertureId) : Prop := ∀ k ∈ s.park, k.placement = .queued → k.aperture ≠ n

/-- Aperture `n` is Draining and meets the drain condition. -/
def State.due (s : State) (n : ApertureId) : Prop := (s.aperture n).state = .draining ∧ s.drained n = true

theorem State.walkBusyFor_eq_false (s : State) (n : ApertureId) : s.walkBusyFor n = false ↔ s.quiet n := by
  rw [State.walkBusyFor_eq]
  simp only [Bool.not_eq_false', List.all_cons, List.all_nil, Bool.and_true, Bool.and_eq_true, State.quiet, Fin.forall_fin_two]
  refine and_congr ?_ ?_ <;> simp [Option.all_eq_true]

theorem State.drained_iff (s : State) (n : ApertureId) : s.drained n = true ↔ (s.aperture n).count = 0 ∧ s.quiet n := by
  simp [State.drained, State.walkBusyFor_eq_false]

theorem drainLaw_iff (s : State) : DrainLaw s ↔ ∀ n, ¬ s.due n := by
  simp [DrainLaw, State.due]

/-- The walks' apertures are all that `quiet` looks at. -/
theorem State.quiet_congr {s t : State} (same : ∀ c, (t.context c).map (·.aperture) = (s.context c).map (·.aperture))
    (n : ApertureId) : t.quiet n ↔ s.quiet n := by
  have quiet (u : State) : u.quiet n ↔ ∀ c a, (u.context c).map (·.aperture) = some a → a ≠ n := by
    simp [State.quiet]
  rw [quiet, quiet]
  simp only [same]

/-! ## Changes that end no drain -/

/-- A change that closes no aperture. A count falls, or a walk ends, of the apertures of `e` alone. -/
structure Calm (e : ApertureId → Prop) (s u : State) : Prop where
  result : ∀ n, (u.aperture n).lastResult = (s.aperture n).lastResult
  state : ∀ n, (u.aperture n).state = (s.aperture n).state ∨
    (s.aperture n).state = .opened ∧ (u.aperture n).state = .halted
  count : ∀ n, (s.aperture n).state ≠ .opened → (u.aperture n).count ≤ (s.aperture n).count
  quiet : ∀ n, (s.aperture n).state ≠ .opened → s.unqueued n → s.quiet n → u.quiet n
  queued : ∀ n, (s.aperture n).state ≠ .opened → s.unqueued n → u.unqueued n
  due : ∀ n, ¬ e n → u.due n → s.due n
  pages : ∀ x ∈ u.pageCache, x ∈ s.pageCache ∨ (s.aperture x.aperture).state ≠ .closed
  dirs : ∀ x ∈ u.dirCache, x ∈ s.dirCache ∨ (s.aperture x.aperture).state ≠ .closed
  causes : CausesGrow s u

/-- No aperture. -/
abbrev noAperture : ApertureId → Prop := fun _ => False

theorem Calm.state_of_not_opened {e : ApertureId → Prop} {s u : State} (calm : Calm e s u) {n : ApertureId}
    (other : (s.aperture n).state ≠ .opened) : (u.aperture n).state = (s.aperture n).state :=
  (calm.state n).resolve_right fun h => other h.1

theorem Calm.trans {e e' : ApertureId → Prop} {s t u : State} (h : Calm e s t) (h' : Calm e' t u) :
    Calm (fun n => e n ∨ e' n) s u := by
  have still {n : ApertureId} (other : (s.aperture n).state ≠ .opened) : (t.aperture n).state ≠ .opened := by
    rw [h.state_of_not_opened other]; exact other
  refine ⟨fun n => (h'.result n).trans (h.result n), fun n => ?_, fun n other => (h'.count n (still other)).trans (h.count n other),
    fun n other none quiet => h'.quiet n (still other) (h.queued n other none) (h.quiet n other none quiet),
    fun n other none => h'.queued n (still other) (h.queued n other none),
    fun n apart due => h.due n (fun own => apart (.inl own)) (h'.due n (fun own => apart (.inr own)) due),
    fun x hx => ?_, fun x hx => ?_, h.causes.trans h'.causes⟩
  · obtain same | ⟨opened, halted⟩ := h'.state n
    · rw [same]; exact h.state n
    · obtain same | ⟨-, other⟩ := h.state n
      · exact .inr ⟨same ▸ opened, halted⟩
      · rw [other] at opened; cases opened
  · obtain hx | live := h'.pages x hx
    · exact h.pages x hx
    · exact .inr fun closed => live ((h.state_of_not_opened (by simp [closed])).trans closed)
  · obtain hx | live := h'.dirs x hx
    · exact h.dirs x hx
    · exact .inr fun closed => live ((h.state_of_not_opened (by simp [closed])).trans closed)

theorem Calm.weaken {e e' : ApertureId → Prop} {s u : State} (calm : Calm e s u) (wider : ∀ n, e n → e' n) : Calm e' s u :=
  { calm with due := fun n apart => calm.due n fun own => apart (wider n own) }

/-- A change that leaves the descriptors and the walks' apertures, queues no slot, and fills no cache. -/
theorem Calm.of_same {s u : State} (apertures : ∀ n, u.aperture n = s.aperture n)
    (contexts : ∀ c, (u.context c).map (·.aperture) = (s.context c).map (·.aperture))
    (queued : ∀ n, s.unqueued n → u.unqueued n) (pages : ∀ x ∈ u.pageCache, x ∈ s.pageCache)
    (dirs : ∀ x ∈ u.dirCache, x ∈ s.dirCache) (causes : CausesGrow s u) : Calm noAperture s u where
  result n := by rw [apertures]
  state n := .inl (by rw [apertures])
  count n _ := by rw [apertures]
  quiet n _ _ quiet := (State.quiet_congr contexts n).2 quiet
  queued n _ := queued n
  due n _ due := by
    rw [State.due, State.drained_iff, apertures, State.quiet_congr contexts, ← State.drained_iff] at due
    exact due
  pages x hx := .inl (pages x hx)
  dirs x hx := .inl (dirs x hx)
  causes := causes

theorem State.unqueued_of_park {s u : State} (same : u.park = s.park) (n : ApertureId) (none : s.unqueued n) : u.unqueued n := by
  rwa [State.unqueued, same]

/-- The fields that the drain condition and the caches are of. -/
theorem Calm.of_fields {s u : State} (apertures : u.apertures = s.apertures) (contexts : u.contexts = s.contexts)
    (park : u.park = s.park) (pages : u.pageCache = s.pageCache) (dirs : u.dirCache = s.dirCache)
    (causes : CausesGrow s u) : Calm noAperture s u :=
  .of_same (fun n => by simp [State.aperture, apertures]) (fun c => by simp [State.context, contexts])
    (State.unqueued_of_park park) (by simp [pages]) (by simp [dirs]) causes

theorem Calm.refl (s : State) : Calm noAperture s s := .of_fields rfl rfl rfl rfl rfl (.of_eq rfl)

/-- A change of one descriptor, which is Open before it or keeps its state, its count and its result. -/
theorem Calm.of_aperture {s u : State} {n : ApertureId} (others : ∀ j, j ≠ n → u.aperture j = s.aperture j)
    (contexts : u.contexts = s.contexts) (park : u.park = s.park) (pages : u.pageCache = s.pageCache)
    (dirs : u.dirCache = s.dirCache) (causes : CausesGrow s u) (result : (u.aperture n).lastResult = (s.aperture n).lastResult)
    (state : (u.aperture n).state = (s.aperture n).state ∨ (s.aperture n).state = .opened ∧ (u.aperture n).state = .halted)
    (count : (s.aperture n).state ≠ .opened → (u.aperture n).count ≤ (s.aperture n).count) : Calm (· = n) s u := by
  have quiet (j : ApertureId) : u.quiet j ↔ s.quiet j := State.quiet_congr (fun c => by simp [State.context, contexts]) j
  refine ⟨fun j => ?_, fun j => ?_, fun j => ?_, fun j _ _ => (quiet j).2, fun j _ => State.unqueued_of_park park j,
    fun j apart due => ?_, fun x hx => .inl (pages ▸ hx), fun x hx => .inl (dirs ▸ hx), causes⟩
  · by_cases own : j = n
    · rw [own]; exact result
    · rw [others j own]
  · by_cases own : j = n
    · rw [own]; exact state
    · rw [others j own]; exact .inl rfl
  · by_cases own : j = n
    · rw [own]; exact count
    · rw [others j own]; exact fun _ => le_rfl
  · rw [State.due, State.drained_iff, others j apart, quiet, ← State.drained_iff] at due
    exact due

theorem lowerCount_calm (n : ApertureId) (s : State) : Calm (· = n) s (lowerCount n s) := by
  have own : (lowerCount n s).aperture n = { s.aperture n with count := (s.aperture n).count - 1 } := by simp [lowerCount_aperture]
  refine .of_aperture (fun j other => by simp [lowerCount_aperture, other]) (by simp) (by simp) (by simp) (by simp) (.of_eq (by simp))
    ?_ (.inl ?_) fun _ => ?_ <;> rw [own]
  exact Nat.sub_le _ _

theorem haltOnFault_calm (n : ApertureId) (s : State) : Calm noAperture s (haltOnFault n s) := by
  have calm : Calm (· = n) s (haltOnFault n s) := by
    refine .of_aperture (fun j other => by simp [haltOnFault_aperture, other]) (by simp) (by simp) (by simp) (by simp)
      (haltOnFault_grow n s) ?_ ?_ fun _ => (haltOnFault_count n s n).le
    · rw [haltOnFault_aperture]; split <;> rfl
    · rw [haltOnFault_aperture]
      split
      · rename_i h; exact .inr ⟨h.2.2, rfl⟩
      · exact .inl rfl
  refine { calm with due := fun j _ due => ?_ }
  by_cases own : j = n
  · subst own
    have same : (haltOnFault j s).aperture j = s.aperture j := by
      rw [haltOnFault_aperture, if_neg]
      rintro ⟨-, fault, opened⟩
      have := due.1
      simp [haltOnFault_aperture, fault, opened] at this
    rw [State.due, State.drained_iff, same, State.quiet_congr (s := s) (by simp), ← State.drained_iff] at due
    exact due
  · exact calm.due j own due

theorem admitRequest_calm {s : State} {m : Master} {r : Request} {n : ApertureId} (opened : (s.aperture n).state = .opened) :
    Calm noAperture s (admitRequest m r n s) := by
  have own : ((admitRequest m r n s).aperture n) = { s.aperture n with count := (s.aperture n).count + 1 } := by simp
  have calm : Calm (· = n) s (admitRequest m r n s) := by
    refine .of_aperture (fun j other => by simp [other]) (by simp) (by simp) (by simp) (by simp) (.of_eq (by simp)) ?_ ?_
      fun other => absurd opened other
    · rw [own]
    · rw [own]; exact .inl rfl
  refine { calm with due := fun j _ due => ?_ }
  by_cases same : j = n
  · subst same
    have := due.1
    rw [own] at this
    rw [opened] at this
    cases this
  · exact calm.due j same due

/-- The slots after a request is parked: one more, of an Open aperture (R33, R91). -/
theorem addSlot_calm {s : State} {k : ParkSlot} (opened : (s.aperture k.aperture).state = .opened) :
    Calm noAperture s (addSlot k s) :=
  { Calm.of_fields (s := s) (u := { addSlot k s with park := s.park }) rfl rfl rfl rfl rfl (.of_eq rfl) with
    queued := fun n other none x hx placed => by
      obtain hx | rfl : x ∈ s.park ∨ x = k := by simpa using hx
      · exact none x hx placed
      · rintro rfl; exact other opened }

/-! ## The end of a drain -/

theorem not_due_drainTest (n : ApertureId) (s : State) : ¬ (drainTest n s).due n := by
  intro due
  have same : ¬ ((s.aperture n).state = .draining ∧ s.drained n = true) := fun h => by
    have := due.1
    simp [drainTest_aperture, h] at this
  rw [State.due, State.drained_iff, drainTest_aperture, if_neg (fun h => same h.2), State.quiet_congr (s := s) (by simp),
    ← State.drained_iff] at due
  exact same due

theorem due_of_drainTest {n j : ApertureId} (other : j ≠ n) {s : State} (due : (drainTest n s).due j) : s.due j := by
  rw [State.due, State.drained_iff, drainTest_aperture, if_neg (fun h => other h.1), State.quiet_congr (s := s) (by simp),
    ← State.drained_iff] at due
  exact due

/-- What one move or act does to the drains: nothing, or a change after which one aperture is tested. -/
def Tested (s t : State) : Prop := Calm noAperture s t ∨ ∃ e u, Calm (· = e) s u ∧ t = drainTest e u

theorem Tested.due {s t : State} (tested : Tested s t) {n : ApertureId} (due : t.due n) : s.due n := by
  obtain calm | ⟨e, u, calm, rfl⟩ := tested
  · exact calm.due n id due
  · by_cases own : n = e
    · subst own; exact absurd due (not_due_drainTest n u)
    · exact calm.due n own (due_of_drainTest own due)

theorem Tested.retire {s u : State} (calm : Calm noAperture s u) (n : ApertureId) : Tested s (retire n u) :=
  .inr ⟨n, _, (calm.trans (lowerCount_calm n u)).weaken (fun _ h => h.resolve_left id), rfl⟩

theorem Move.tested {o s t : State} (move : Move o s t) : Tested s t := by
  have grow := move.grow
  have fields (apertures : t.apertures = s.apertures) (contexts : t.contexts = s.contexts)
      (park : t.park = s.park) (pages : t.pageCache = s.pageCache) (dirs : t.dirCache = s.dirCache) : Tested s t :=
    .inl (.of_fields apertures contexts park pages dirs grow)
  cases move with
  | drain n => exact .inr ⟨n, s, (Calm.refl s).weaken nofun, rfl⟩
  | halt n => exact .inl (haltOnFault_calm n s)
  | touchPage e mem =>
    exact .inl (.of_same (by simp) (by simp) (State.unqueued_of_park (by simp)) (fun x hx => mem_touchPage mem hx) (by simp) grow)
  | touchDir e mem =>
    exact .inl (.of_same (by simp) (by simp) (State.unqueued_of_park (by simp)) (by simp) (fun x hx => mem_touchDir mem hx) grow)
  | fillPage n page f a keep =>
    have calm : Calm noAperture s { Machine.fillPage n page f a keep s with pageCache := s.pageCache } :=
      .of_fields (by simp) (by simp) (by simp) rfl (by simp) grow
    exact .inl { calm with
      pages := fun x hx => mem_fillPage hx }
  | fillDir w f =>
    have calm : Calm noAperture s { Machine.fillDir w f s with dirCache := s.dirCache } :=
      .of_fields (by simp) (by simp) (by simp) (by simp) rfl grow
    exact .inl { calm with dirs := fun x hx => mem_fillDir hx }
  | begins c n page idle live =>
    have calm : Calm noAperture s s := .refl s
    refine .inl { calm with quiet := fun j other none quiet d w walks => ?_, due := fun j _ due => ?_ }
    · rw [State.context_setContext] at walks
      split at walks
      · cases walks
        rintro rfl
        obtain opened | ⟨k, queued, aperture⟩ := live
        · exact other opened
        · obtain ⟨mem, placed⟩ := List.mem_filter.1 queued
          exact none k mem (by simpa using placed) aperture
      · exact quiet d w walks
    · rw [State.due, State.drained_iff] at due ⊢
      refine ⟨due.1, due.2.1, fun d w walks => due.2.2 d w ?_⟩
      rw [State.context_setContext, if_neg]
      · exact walks
      · rintro rfl; rw [idle] at walks; cases walks
  | join c n page =>
    refine .inl (.of_same (fun _ => rfl) (fun _ => rfl) (fun j none k hk placed => ?_) (fun _ hx => hx) (fun _ hx => hx) (.of_eq rfl))
    obtain ⟨x, hx, rfl⟩ := List.mem_map.1 hk
    split at placed
    · cases placed
    · rename_i other
      rw [if_neg other]
      exact none x hx placed
  | enters c v w walks key =>
    refine .inl (.of_same (by simp) (fun d => ?_) (State.unqueued_of_park rfl) (fun _ hx => hx) (fun _ hx => hx) (.of_eq rfl))
    rw [State.context_setContext]
    split
    · rename_i own; rw [own, walks]; exact congrArg some key.1
    · rfl
  | pend c w walks =>
    refine .inl (.of_same (by simp) (fun d => ?_) (State.unqueued_of_park rfl) (fun _ hx => hx) (fun _ hx => hx) (.of_eq rfl))
    rw [makePending_context]
    split
    · rename_i own; rw [own, walks]; rfl
    · rfl
  | idle c w walks =>
    have calm : Calm (· = w.aperture) s s := (Calm.refl s).weaken nofun
    refine .inr ⟨w.aperture, s.setContext c none, { calm with
      quiet := fun j other none quiet d v busy => ?_, due := fun j apart due => ?_ }, rfl⟩
    · rw [State.context_setContext] at busy
      split at busy
      · cases busy
      · exact quiet d v busy
    · rw [State.due, State.drained_iff] at due ⊢
      refine ⟨due.1, due.2.1, fun d v busy => ?_⟩
      by_cases own : d = c
      · rw [own, walks] at busy
        cases busy
        exact fun same => apart same.symm
      · exact due.2.2 d v (by rw [State.context_setContext, if_neg own]; exact busy)
  | leave k x =>
    refine Tested.retire (.of_same (by simp) (by simp) (fun n none j hj => none j ?_) (by simp) (by simp) (.of_eq (by simp)))
      k.aperture
    exact (by simpa using hj : j ∈ s.park ∧ _).1
  | pass k p =>
    refine .inl (.of_same (by simp) (by simp) (fun n none j hj => none j ?_) (by simp) (by simp) grow)
    exact (by simpa using hj : j ∈ s.park ∧ _).1
  | tick =>
    refine .inl (.of_same (fun _ => rfl) (fun _ => rfl) (fun n none k hk placed => ?_) (fun _ hx => hx) (fun _ hx => hx) (.of_eq rfl))
    obtain ⟨x, hx, rfl⟩ := List.mem_map.1 hk
    have same : x.tick.placement = x.placement ∧ x.tick.aperture = x.aperture := by
      unfold ParkSlot.tick; split <;> exact ⟨rfl, rfl⟩
    rw [same.2]
    exact none x hx (same.1 ▸ placed)
  | takeFault m r n k takes =>
    have pushed : Calm noAperture (admitRequest m r n s) (pushCompletion m ⟨r.tag, .fault k⟩ (admitRequest m r n s)) :=
      .of_fields (by simp) (by simp) (by simp) (by simp) (by simp) (.of_eq (by simp))
    exact Tested.retire ((((admitRequest_calm takes.opened).trans pushed).trans (haltOnFault_calm n _)).weaken (by simp)) n
  | takeRead m r n arrival beats phys takes =>
    have joined : Calm noAperture (admitRequest m r n s)
        (appendRead m ⟨r.tag, arrival, r.address, phys, beats, n, false⟩ (admitRequest m r n s)) :=
      .of_fields (by simp) (by simp) (by simp) (by simp) (by simp) (.of_eq (by simp))
    exact .inl (((admitRequest_calm takes.opened).trans joined).weaken (by simp))
  | takeWrite m r n arrival beats phys posting takes =>
    have joined : Calm noAperture (admitRequest m r n s) (postOkay m r.tag posting (appendWrite m
        ⟨r.tag, arrival, r.address, beats, n, .translated phys, posting, false⟩ (admitRequest m r n s))) :=
      .of_fields (by simp) (by simp) (by simp) (by simp) (by simp) (.of_eq (by simp))
    exact .inl (((admitRequest_calm takes.opened).trans joined).weaken (by simp))
  | takePark m r n num page arrival place takes =>
    have hole : Calm noAperture (admitRequest m r n s) (leaveHole m r n arrival (admitRequest m r n s)) :=
      .of_fields (by simp) (by simp) (by simp) (by simp) (by simp) (.of_eq (by simp))
    have opened : ((leaveHole m r n arrival (admitRequest m r n s)).aperture n).state = .opened := by simp [takes.opened]
    exact .inl ((((admitRequest_calm takes.opened).trans hole).trans
      (addSlot_calm (k := parkedSlot num m r n page arrival place s.parkTimeout) opened)).weaken (by simp))
  | draw => exact fields rfl rfl rfl rfl rfl
  | _ => exact fields (by simp) (by simp) (by simp) (by simp) (by simp)

end Sys2Proof.Machine

/-! PROOFS. Every step leaves no aperture due, and a Draining aperture goes to Closed alone (section 1.4). -/

namespace Sys2Proof.Machine

/-- A fold of retirements of apertures, from a change that ends no drain. -/
theorem not_due_foldl_retire (l : List ApertureId) (s : State) (none : ∀ n, ¬ s.due n) (n : ApertureId) :
    ¬ (l.foldl (fun t n => retire n t) s).due n :=
  foldl_retire_keeps (P := fun u => ∀ n, ¬ u.due n)
    (fun u k none j due => none j ((Tested.retire (Calm.refl u) k).due due)) l s none n

theorem Calm.readDone (r : ItemRecord) (res : BusResult) (s : State) : Calm noAperture s (readDone r res s) :=
  .of_fields (by simp) (by simp) (by simp) (by simp) (by simp) (readDone_grow r res s)

theorem Calm.writeDone (r : ItemRecord) (res : BusResult) (s : State) : Calm noAperture s (writeDone r res s) :=
  .of_fields (by simp) (by simp) (by simp) (by simp) (by simp) (writeDone_grow r res s)

/-- A record leaves the list, and its request retires after a change that ends no drain. -/
theorem Tested.retire_record {s u : State} {rest : List AccessRecord} (calm : Calm noAperture { s with inFlight := rest } u)
    (n : ApertureId) : Tested s (Machine.retire n u) := by
  have taken : Calm noAperture s { s with inFlight := rest } := .of_fields rfl rfl rfl rfl rfl (.of_eq rfl)
  exact .retire ((taken.trans calm).weaken (by simp)) n

/-- What an act of the part does to the drains. -/
theorem Act.tested {s t : State} (act : Act s t) : Reach s t ∨ Tested s t := by
  have fields {t : State} (apertures : t.apertures = s.apertures) (contexts : t.contexts = s.contexts) (park : t.park = s.park)
      (pages : t.pageCache = s.pageCache) (dirs : t.dirCache = s.dirCache) (causes : CausesGrow s t) : Reach s t ∨ Tested s t :=
    .inr (.inl (.of_fields apertures contexts park pages dirs causes))
  have grow := act.grow
  cases act with
  | moves reach => exact .inl reach
  | fences | marks | drops | emits | accepts => exact fields rfl rfl rfl rfl rfl grow
  | grantRead | grantWrite => exact fields rfl rfl rfl rfl rfl grow
  | ends m => exact fields (by simp) (by simp) (by simp) (by simp) (by simp) grow
  | invalidates q =>
    refine .inr (.inl (.of_same (fun _ => rfl) (fun c => ?_) (State.unqueued_of_park rfl)
      (fun _ hx => List.mem_of_mem_filter hx) (fun _ hx => List.mem_of_mem_filter hx) (.of_eq rfl)))
    have stale (w : Option Walk) : (w.map q.markStale).map (·.aperture) = w.map (·.aperture) := by
      cases w with
      | none => rfl
      | some w => simp only [Option.map_some, InvCommand.markStale]; split <;> rfl
    match c with
    | 0 => exact stale _
    | 1 => exact stale _
  | walkRead c n p w rest oldest walks =>
    refine .inr (.inl (.of_same (fun _ => rfl) (fun d => ?_) (State.unqueued_of_park rfl) (fun _ h => h) (fun _ h => h) (.of_eq rfl)))
    change ((s.setContext c _).context d).map _ = _
    rw [State.context_setContext]
    split
    · rename_i own; rw [own, walks]; rfl
    · rfl
  | read r res rest oldest => exact .inr (.retire_record (.readDone r res _) r.aperture)
  | write r res rest oldest => exact .inr (.retire_record (.writeDone r res _) r.aperture)
  | grantWalk c w x room walks pending =>
    simp only [Machine.grantWalk, walks]
    refine .inr (.inl (.of_same (fun _ => rfl) (fun d => ?_) (State.unqueued_of_park rfl) (fun _ h => h) (fun _ h => h) (.of_eq rfl)))
    change ((s.setContext c _).context d).map _ = _
    rw [State.context_setContext]
    split
    · rename_i own; rw [own, walks]; rfl
    · rfl

theorem Reach.not_due {s t : State} (reach : Reach s t) (none : ∀ n, ¬ s.due n) : ∀ n, ¬ t.due n :=
  Moves.keep (P := fun u => ∀ n, ¬ u.due n) reach none fun _ _ move none n due => none n (move.tested.due due)

theorem Act.keeps_drainLaw {s t : State} (act : Act s t) (law : DrainLaw s) : DrainLaw t := by
  rw [drainLaw_iff] at law ⊢
  obtain reach | tested := act.tested
  · exact reach.not_due law
  · exact fun n due => law n (tested.due due)

/-- The descriptor of `n` changes, and is not Draining after it, or keeps its state and its count. -/
theorem due_of_one {s t : State} {n : ApertureId} (others : ∀ j, j ≠ n → t.aperture j = s.aperture j)
    (contexts : t.contexts = s.contexts) (own : (t.aperture n).state ≠ .draining ∨
      (t.aperture n).state = (s.aperture n).state ∧ (t.aperture n).count = (s.aperture n).count)
    {j : ApertureId} (due : t.due j) : s.due j := by
  rw [State.due, State.drained_iff, State.quiet_congr (s := s) (fun c => by simp [State.context, contexts])] at due
  rw [State.due, State.drained_iff]
  by_cases same : j = n
  · subst same
    obtain away | ⟨state, count⟩ := own
    · exact absurd due.1 away
    · rwa [state, count] at due
  · rwa [others j same] at due

theorem DrainLaw.of_one {s t : State} (law : DrainLaw s) {n : ApertureId} (others : ∀ j, j ≠ n → t.aperture j = s.aperture j)
    (contexts : t.contexts = s.contexts) (own : (t.aperture n).state ≠ .draining ∨
      (t.aperture n).state = (s.aperture n).state ∧ (t.aperture n).count = (s.aperture n).count) : DrainLaw t := by
  rw [drainLaw_iff] at law ⊢
  exact fun j due => law j (due_of_one others contexts own due)

/-- An abort of a slot of aperture `n` lowers the count of `n`, and ends no other drain. -/
theorem abortSlot_calm (k : ParkSlot) (s : State) : Calm (· = k.aperture) s (abortSlot s k) := by
  have freed : Calm noAperture s (freeSlot k.num (dropParkedWrite k (pushCompletion k.master ⟨k.tag, .aborted⟩ s))) := by
    refine .of_same (by simp) (by simp) (fun n none j hj => none j ?_) (by simp) (by simp) (.of_eq (by simp))
    have := (List.mem_filter.1 hj).1
    simpa using this
  exact (freed.trans (lowerCount_calm k.aperture _)).weaken (fun _ h => h.resolve_left id)

/-- The Close of `n` leaves `n` not due: it is tested last. -/
theorem not_due_closeCommand {n : ApertureId} {s : State} (none : ¬ s.due n) : ¬ (closeCommand n s).due n := by
  simp only [closeCommand]
  split
  · split
    · intro due
      have := due.1
      simp [closeNow_aperture] at this
    · exact not_due_drainTest n _
  · exact fun due => none (due_of_one (s := s) (t := refuseCommand n s) (n := n) (fun j other => by simp [other]) rfl (.inr (by simp)) due)

theorem DrainLaw.closeCommand {s : State} (law : DrainLaw s) (n : ApertureId) : DrainLaw (closeCommand n s) := by
  rw [drainLaw_iff] at law ⊢
  have one {t : State} (others : ∀ j, j ≠ n → t.aperture j = s.aperture j) (contexts : t.contexts = s.contexts)
      (j : ApertureId) (other : j ≠ n) : ¬ t.due j := fun due => by
    rw [State.due, State.drained_iff, others j other, State.quiet_congr (s := s) (fun c => by simp [State.context, contexts]),
      ← State.drained_iff] at due
    exact law j due
  have others : ∀ j, j ≠ n → ¬ (Machine.closeCommand n s).due j :=
    closeCommand_keeps (P := fun u => ∀ j, j ≠ n → ¬ u.due j)
      (one (fun j other => by simp [other]) rfl)
      (fun _ _ => one (fun j other => by simp [closeNow_aperture, other]) (by simp))
      (fun _ => one (fun j other => by simp [other]) rfl)
      (fun u k none own _ j other due => none j other ((abortSlot_calm k u).due j (own ▸ other) due))
      fun u none j other due => none j other (due_of_drainTest other due)
  intro j
  by_cases same : j = n
  · subst same; exact not_due_closeCommand (law j)
  · exact others j same

theorem HostAct.keeps_drainLaw {b b' : Bool} {s t : State} (act : HostAct b b' s t) (law : DrainLaw s) : DrainLaw t := by
  have fields {t : State} (apertures : t.apertures = s.apertures) (contexts : t.contexts = s.contexts) : DrainLaw t :=
    law.of_one (n := 0) (fun _ _ => by simp [State.aperture, apertures]) contexts (.inr (by simp [State.aperture, apertures]))
  have one (n : ApertureId) {a : Aperture} (own : a.state ≠ .draining ∨
      a.state = (s.aperture n).state ∧ a.count = (s.aperture n).count) : DrainLaw (s.setAperture n a) :=
    law.of_one (n := n) (fun j other => by simp [other]) rfl (by simpa using own)
  have refused (n : ApertureId) : DrainLaw (refuseCommand n s) :=
    law.of_one (n := n) (fun j other => by simp [other]) rfl (.inr (by simp))
  cases act with
  | opens n =>
    obtain ⟨-, -, h⟩ | ⟨-, -, h⟩ | ⟨-, h⟩ := openCommand_cases n s <;> rw [h]
    · exact one n (.inl nofun)
    · exact one n (a := { s.aperture n with lastResult := s.openCheck n }) (.inr ⟨rfl, rfl⟩)
    · exact refused n
  | closes n => exact law.closeCommand n
  | halts n =>
    obtain ⟨-, h⟩ | ⟨-, h⟩ := haltCommand_cases n s <;> rw [h]
    · exact one n (a := { s.aperture n with state := .halted, lastResult := .halted }) (.inl nofun)
    · exact refused n
  | resumes n =>
    obtain ⟨-, h⟩ | ⟨-, h⟩ := resumeCommand_cases n s <;> rw [h]
    · exact one n (.inl nofun)
    · exact refused n
  | describes n w v =>
    simp only [writeDescriptor]
    split
    · exact one n (.inr (by cases w <;> exact ⟨rfl, rfl⟩))
    · exact fields rfl rfl
  | sweeps m live =>
    rw [drainLaw_iff] at law ⊢
    refine not_due_foldl_retire _ _ fun n due => law n ?_
    exact due
  | _ => exact fields rfl rfl

theorem ResetAct.keeps_drainLaw {s t : State} (act : ResetAct s t) : DrainLaw t := by
  have none (pass : Bool) (n : ApertureId) : ((aperturesAfterReset pass)[n]).state ≠ .draining := by
    rw [aperturesAfterReset_get]; split <;> nofun
  intro n draining
  cases act with
  | softReset => exact absurd (by simpa [State.aperture, Machine.softReset] using draining) (none s.passLatched n)
  | holds => exact absurd draining (none false n)
  | releases pass => exact absurd (by simpa [State.aperture, release] using draining) (none pass n)

theorem step_keeps_drainLaw {s t : State} (done : step s = .next t) (law : DrainLaw s) : DrainLaw t :=
  step_keeps done law (fun _ _ law => law) (fun _ _ act law => act.keeps_drainLaw law)
    (fun _ _ act law => act.keeps_drainLaw law) fun _ _ act _ => act.keeps_drainLaw

end Sys2Proof.Machine

/-! PROOFS. What becomes of a Draining aperture under every command but a reset (section 1.4). -/

namespace Sys2Proof.Machine

/-! ## The end of a drain, since a state `o` -/

/-- Aperture `n` has reached Closed in `u`, with nothing of it left. -/
structure Shut (n : ApertureId) (o u : State) : Prop where
  closed : (u.aperture n).state = .closed
  count : (u.aperture n).count = 0
  cause : u.causes.getLsbD 3 = true
  pages : ∀ x ∈ u.pageCache, x.aperture ≠ n
  dirs : ∀ x ∈ u.dirCache, x.aperture ≠ n
  quiet : o.unqueued n → u.quiet n

/-- What may have become in `u` of aperture `n`, which was Draining in `o`. -/
structure Ends (n : ApertureId) (o u : State) : Prop where
  result : (u.aperture n).lastResult = (o.aperture n).lastResult
  queued : o.unqueued n → u.unqueued n
  course : (u.aperture n).state = .draining ∨ Shut n o u

theorem Ends.refl {n : ApertureId} {o : State} (draining : (o.aperture n).state = .draining) : Ends n o o :=
  ⟨rfl, id, .inl draining⟩

theorem Ends.not_opened {n : ApertureId} {o u : State} (ends : Ends n o u) : (u.aperture n).state ≠ .opened := by
  obtain draining | shut := ends.course
  · simp [draining]
  · simp [shut.closed]

theorem Ends.calm {n : ApertureId} {o s u : State} {e : ApertureId → Prop} (ends : Ends n o s) (calm : Calm e s u) :
    Ends n o u := by
  have other := ends.not_opened
  refine ⟨(calm.result n).trans ends.result, fun none => calm.queued n other (ends.queued none), ?_⟩
  obtain draining | shut := ends.course
  · exact .inl ((calm.state_of_not_opened other).trans draining)
  · exact .inr
      { closed := (calm.state_of_not_opened other).trans shut.closed
        count := Nat.le_zero.1 (shut.count ▸ calm.count n other)
        cause := calm.causes.keeps shut.cause
        pages := fun x hx => (calm.pages x hx).elim (shut.pages x) fun live same => live (same ▸ shut.closed)
        dirs := fun x hx => (calm.dirs x hx).elim (shut.dirs x) fun live same => live (same ▸ shut.closed)
        quiet := fun none => calm.quiet n other (ends.queued none) (shut.quiet none) }

/-- A change beside aperture `n`: of other descriptors, with fewer cache entries. -/
theorem Ends.beside {n : ApertureId} {o s u : State} (ends : Ends n o s) (own : u.aperture n = s.aperture n)
    (contexts : u.contexts = s.contexts) (park : u.park = s.park) (pages : ∀ x ∈ u.pageCache, x ∈ s.pageCache)
    (dirs : ∀ x ∈ u.dirCache, x ∈ s.dirCache) (causes : CausesGrow s u) : Ends n o u := by
  refine ⟨own ▸ ends.result, fun none => State.unqueued_of_park park n (ends.queued none), ends.course.imp (own ▸ id) fun shut => ?_⟩
  exact
    { closed := own ▸ shut.closed
      count := own ▸ shut.count
      cause := causes.keeps shut.cause
      pages := fun x hx => shut.pages x (pages x hx)
      dirs := fun x hx => shut.dirs x (dirs x hx)
      quiet := fun none => (State.quiet_congr (fun c => by simp [State.context, contexts]) n).2 (shut.quiet none) }

theorem closeNow_caches (n : ApertureId) (s : State) : (closeNow n s).pageCache = s.pageCache.filter (·.aperture != n) ∧
    (closeNow n s).dirCache = s.dirCache.filter (·.aperture != n) := ⟨rfl, rfl⟩

theorem Ends.closeNow_other {n e : ApertureId} {o s : State} (ends : Ends n o s) (other : n ≠ e) : Ends n o (closeNow e s) :=
  ends.beside (by simp [closeNow_aperture, other]) (by simp) (by simp)
    (fun _ hx => List.mem_of_mem_filter ((closeNow_caches e s).1 ▸ hx))
    (fun _ hx => List.mem_of_mem_filter ((closeNow_caches e s).2 ▸ hx)) (closeNow_grow e s)

/-- The test of a Draining aperture that meets the drain condition closes it, with nothing of it left. -/
theorem Ends.closeNow_own {n : ApertureId} {o s : State} (ends : Ends n o s) (drained : s.drained n = true) :
    Ends n o (closeNow n s) := by
  obtain ⟨count, quiet⟩ := s.drained_iff n |>.1 drained
  refine ⟨by simpa [closeNow_aperture] using ends.result, fun none => State.unqueued_of_park (by simp) n (ends.queued none), .inr ?_⟩
  exact
    { closed := by simp [closeNow_aperture]
      count := by simpa [closeNow_aperture] using count
      cause := by
        have causes : (closeNow n s).causes = s.causes ||| 0x008 := rfl
        rw [causes, BitVec.getLsbD_or]
        simp
      pages := fun x hx => by
        rw [(closeNow_caches n s).1] at hx
        exact bne_iff_ne.1 (List.mem_filter.1 hx).2
      dirs := fun x hx => by
        rw [(closeNow_caches n s).2] at hx
        exact bne_iff_ne.1 (List.mem_filter.1 hx).2
      quiet := fun _ => (State.quiet_congr (by simp) n).2 quiet }

theorem Ends.drainTest {n : ApertureId} {o s : State} (ends : Ends n o s) (e : ApertureId) : Ends n o (drainTest e s) := by
  unfold Machine.drainTest
  split
  · rename_i due
    by_cases own : n = e
    · subst own
      exact ends.closeNow_own (by simpa using (Bool.and_eq_true_iff.1 due).2)
    · exact ends.closeNow_other own
  · exact ends

theorem Ends.tested {n : ApertureId} {o s t : State} (ends : Ends n o s) (tested : Tested s t) : Ends n o t := by
  obtain calm | ⟨e, u, calm, rfl⟩ := tested
  · exact ends.calm calm
  · exact (ends.calm calm).drainTest e

theorem Ends.acts {n : ApertureId} {o s t : State} (ends : Ends n o s) (acts : Acts s t) : Ends n o t :=
  acts.keep (P := Ends n o) ends fun _ _ act ends => by
    obtain reach | tested := act.tested
    · exact Moves.keep (P := Ends n o) reach ends fun _ _ move ends => ends.tested move.tested
    · exact ends.tested tested

/-- A change of fields that no drain is of. -/
theorem Ends.fields {n : ApertureId} {o s u : State} (ends : Ends n o s) (apertures : u.apertures = s.apertures)
    (contexts : u.contexts = s.contexts) (park : u.park = s.park) (pages : u.pageCache = s.pageCache)
    (dirs : u.dirCache = s.dirCache) (causes : CausesGrow s u) : Ends n o u :=
  ends.calm (.of_fields apertures contexts park pages dirs causes)

/-! ## Port Resets and pushes -/

theorem Ends.resetPort {n : ApertureId} {o s : State} (ends : Ends n o s) (m : Master) : Ends n o (resetPort m s) := by
  unfold Machine.resetPort
  split
  · exact ends
  · have swept : Ends n o (sweep m (indicate m s)) :=
      ends.calm (.of_same (fun _ => rfl) (fun _ => rfl)
        (fun j none k hk => none k (List.mem_of_mem_filter hk)) (fun _ h => h) (fun _ h => h) (.of_eq rfl))
    have retired := foldl_retire_keeps (P := Ends n o) (fun u k ends => ends.tested (.retire (Calm.refl u) k))
      (s.sweptApertures m) _ swept
    exact (retired.acts (lowerFence_acts (s.sweptCounted m) _).acts).acts (Act.ends _ m).acts

theorem Ends.pushStaged {n : ApertureId} {o s : State} (ends : Ends n o s) : Ends n o (pushStaged s) := by
  obtain ⟨-, h⟩ | ⟨q, -, -, h⟩ | ⟨q, -, -, h⟩ | h := pushStaged_cases s <;> rw [h]
  · exact ends.fields rfl rfl rfl rfl rfl (setCause_grow _ _)
  · exact ends.acts (handleHead_acts [q] s).acts
  · exact ends.fields rfl rfl rfl rfl rfl (.of_eq rfl)
  · exact ends.fields rfl rfl rfl rfl rfl (setCause_grow _ _)

/-! ## Commands to apertures -/

/-- What a command to an aperture may do to aperture `n`, Draining in `s`: it ends its drain as other events do, or, being a
command to `n`, is refused (R21, R22). -/
def EndsOrRefused (n : ApertureId) (own : Prop) (s t : State) : Prop :=
  Ends n s t ∨ own ∧ (t.aperture n).state = .draining ∧ (t.aperture n).lastResult = .badState ∧ t.causes.getLsbD 7 = true

theorem refuseCommand_ends {n o : ApertureId} {s : State} (draining : (s.aperture n).state = .draining) :
    EndsOrRefused n (o = n) s (refuseCommand o s) := by
  by_cases own : o = n
  · subst own
    have causes : (refuseCommand o s).causes = s.causes ||| 0x080 := rfl
    exact .inr ⟨rfl, by simpa using draining, by simp, by rw [causes, BitVec.getLsbD_or]; simp⟩
  · exact .inl ((Ends.refl draining).beside (by simp [Ne.symm own]) rfl rfl (fun _ h => h) (fun _ h => h) (setCause_grow _ _))

theorem Ends.setAperture_other {n o : ApertureId} {s : State} (draining : (s.aperture n).state = .draining) (other : o ≠ n)
    (a : Aperture) : Ends n s (s.setAperture o a) :=
  (Ends.refl draining).beside (by simp [Ne.symm other]) rfl rfl (fun _ h => h) (fun _ h => h) (.of_eq rfl)

theorem openCommand_ends {n : ApertureId} {s : State} (draining : (s.aperture n).state = .draining) (o : ApertureId) :
    EndsOrRefused n (o = n) s (openCommand o s) := by
  have other (closed : (s.aperture o).state = .closed) : o ≠ n := by rintro rfl; simp [closed] at draining
  obtain ⟨closed, -, h⟩ | ⟨closed, -, h⟩ | ⟨-, h⟩ := openCommand_cases o s <;> rw [h]
  · exact .inl (.setAperture_other draining (other closed) _)
  · exact .inl ((Ends.setAperture_other draining (other closed) { s.aperture o with lastResult := s.openCheck o }).fields
      rfl rfl rfl rfl rfl (setCause_grow _ _))
  · exact refuseCommand_ends draining

theorem haltCommand_ends {n : ApertureId} {s : State} (draining : (s.aperture n).state = .draining) (o : ApertureId) :
    EndsOrRefused n (o = n) s (haltCommand o s) := by
  obtain ⟨opened, h⟩ | ⟨-, h⟩ := haltCommand_cases o s <;> rw [h]
  · have other : o ≠ n := by rintro rfl; simp [opened] at draining
    exact .inl ((Ends.setAperture_other draining other { s.aperture o with state := .halted, lastResult := .halted }).fields
      rfl rfl rfl rfl rfl (setCause_grow _ _))
  · exact refuseCommand_ends draining

theorem resumeCommand_ends {n : ApertureId} {s : State} (draining : (s.aperture n).state = .draining) (o : ApertureId) :
    EndsOrRefused n (o = n) s (resumeCommand o s) := by
  obtain ⟨halted, h⟩ | ⟨-, h⟩ := resumeCommand_cases o s <;> rw [h]
  · have other : o ≠ n := by rintro rfl; simp [halted] at draining
    exact .inl (.setAperture_other draining other _)
  · exact refuseCommand_ends draining

theorem closeCommand_ends {n : ApertureId} {s : State} (draining : (s.aperture n).state = .draining) (o : ApertureId) :
    EndsOrRefused n (o = n) s (closeCommand o s) := by
  have other (live : (s.aperture o).state = .opened ∨ (s.aperture o).state = .halted) : o ≠ n := by
    rintro rfl; simp [draining] at live
  by_cases own : o = n
  · subst own
    have refused : closeCommand o s = refuseCommand o s := by simp [closeCommand, draining]
    rw [refused]
    exact refuseCommand_ends draining
  · refine .inl (closeCommand_keeps (P := Ends n s) ((refuseCommand_ends draining).resolve_right fun h => own h.1)
      (fun live _ => ?_) (fun live => .setAperture_other draining (other live) _)
      (fun u k ends _ _ => ends.calm (abortSlot_calm k u)) fun u ends => ends.drainTest o)
    exact (Ends.setAperture_other draining (other live) _).closeNow_other (Ne.symm own)

theorem writeCommand_ends {n : ApertureId} {s : State} (draining : (s.aperture n).state = .draining) (o : ApertureId) (v : Word) :
    EndsOrRefused n (o = n) s (writeCommand o v s) := by
  unfold writeCommand
  split; · exact openCommand_ends draining o
  split; · exact closeCommand_ends draining o
  split; · exact haltCommand_ends draining o
  split; · exact resumeCommand_ends draining o
  exact .inl ((Ends.refl draining).fields rfl rfl rfl rfl rfl (setCause_grow _ _))

/-! ## Host writes -/

/-- The word index of a command word, for a word that is one (section 10.1). -/
def WindowWord.commandIndex : WindowWord → Option Nat
  | .command o => some (67 + 8 * o.val)
  | _ => none

theorem toNat_of_wordAt_command {w : WordIndex} {o : ApertureId} (command : wordAt w = .command o) : w.toNat = 67 + 8 * o.val := by
  have all : ∀ w : WordIndex, (wordAt w).commandIndex.all (· = w.toNat) = true := by decide
  have own := all w
  rw [command] at own
  simpa [WindowWord.commandIndex, eq_comm] using own

theorem writeDescriptor_ends {n : ApertureId} {s : State} (draining : (s.aperture n).state = .draining) (o : ApertureId)
    (w : DescriptorWord) (v : Word) : Ends n s (writeDescriptor o w v s) := by
  simp only [writeDescriptor]
  split
  · rename_i closed
    exact .setAperture_other draining (by rintro rfl; simp [closed] at draining) _
  · exact (Ends.refl draining).fields rfl rfl rfl rfl rfl (setCause_grow _ _)

theorem storeEnable_ends {n : ApertureId} {s : State} (draining : (s.aperture n).state = .draining) (m : Master) (enable : Bool) :
    Ends n s (storeEnable m enable s) :=
  (Ends.refl draining).fields rfl rfl rfl rfl rfl (.of_eq rfl)

theorem fullWrite_ends {n : ApertureId} {s : State} (draining : (s.aperture n).state = .draining) (w : WordIndex) (v : Word)
    (ordinary : w = 2 → v.getLsbD 1 = false) : EndsOrRefused n (w.toNat = 67 + 8 * n.val) s (fullWrite w v s) := by
  have same := Ends.refl draining
  have fields {u : State} (apertures : u.apertures = s.apertures) (contexts : u.contexts = s.contexts) (park : u.park = s.park)
      (pages : u.pageCache = s.pageCache) (dirs : u.dirCache = s.dirCache) :
      EndsOrRefused n (w.toNat = 67 + 8 * n.val) s u := by
    refine .inl ⟨by simp [State.aperture, apertures], State.unqueued_of_park park n, .inl ?_⟩
    rw [State.aperture, apertures]; exact draining
  unfold fullWrite
  split
  · rename_i control
    rw [writeGlobalControl, if_neg (Bool.eq_false_iff.1 (ordinary (wordAt_eq_globalControl.1 control)))]
    exact fields rfl rfl rfl rfl rfl
  · exact fields rfl rfl rfl rfl rfl
  · exact fields rfl rfl rfl rfl rfl
  · exact fields rfl rfl rfl rfl rfl
  · exact fields rfl rfl rfl rfl rfl
  · rename_i m _
    have stored := storeEnable_ends draining m (v.getLsbD 0)
    unfold writePortControl
    split
    · exact .inl (stored.resetPort m)
    · exact .inl stored
  · exact fields rfl rfl rfl rfl rfl
  · exact .inl same.pushStaged
  · exact fields rfl rfl rfl rfl rfl
  · exact .inl (writeDescriptor_ends draining _ _ v)
  · rename_i o command
    refine (writeCommand_ends draining o v).imp_right fun ⟨own, rest⟩ => ⟨?_, rest⟩
    rw [toNat_of_wordAt_command command, own]
  all_goals exact .inl same

/-! ## All commands -/

/-- Every command but a reset leaves a Draining aperture Draining, closes it with nothing of it left, or, being a command to it,
is refused (R21, R22). -/
theorem exec_ends {c : Instr} {s t : State} {n : ApertureId} (ordinary : resetsPart c = false) (done : exec c s = .next t)
    (draining : (s.aperture n).state = .draining) : EndsOrRefused n (commandsAperture n c = true) s t := by
  have same := Ends.refl draining
  by_cases own : isPartEvent c = true
  · by_cases high : ∀ m r, c = .arrival m r → s.resetLow = false
    · exact .inl (same.acts (exec_acts own high done))
    · obtain ⟨m, r, rfl, low⟩ : ∃ m r, c = .arrival m r ∧ s.resetLow = true := by simpa using high
      simp only [exec, execArrival, low, if_true] at done
      split at done
      · cases done
      · split at done <;> cases done
        exact .inl (same.fields rfl rfl rfl rfl rfl (.of_eq rfl))
  have effect {f : State → State} (done : whenReleased s f = .next t)
      (ends : EndsOrRefused n (commandsAperture n c = true) s (f s)) : EndsOrRefused n (commandsAperture n c = true) s t :=
    keeps_of_whenReleased done (.inl same) ends
  have aimed {o : ApertureId} {f : State → State} (done : whenReleased s f = .next t) (aim : o = n → commandsAperture n c = true)
      (ends : EndsOrRefused n (o = n) s (f s)) : EndsOrRefused n (commandsAperture n c = true) s t :=
    effect done (ends.imp_right fun ⟨own, rest⟩ => ⟨aim own, rest⟩)
  cases c with
  | openAperture o => exact aimed done (by simp [commandsAperture]) (openCommand_ends draining o)
  | closeAperture o => exact aimed done (by simp [commandsAperture]) (closeCommand_ends draining o)
  | haltAperture o => exact aimed done (by simp [commandsAperture]) (haltCommand_ends draining o)
  | resumeAperture o => exact aimed done (by simp [commandsAperture]) (resumeCommand_ends draining o)
  | badCommand o v => exact aimed done (by simp [commandsAperture]) (writeCommand_ends draining o v)
  | descriptorWrite o w v => exact effect done (.inl (writeDescriptor_ends draining o w v))
  | portEnableWrite m e => exact effect done (.inl (storeEnable_ends draining m e))
  | portReset m e =>
    dsimp only [exec, execPortReset] at done
    exact effect done (.inl ((storeEnable_ends draining m e).resetPort m))
  | push v => exact effect done (.inl same.pushStaged)
  | causeClear v => exact effect done (.inl ⟨rfl, id, .inl draining⟩)
  | globalEnable e =>
    dsimp only [exec, execGlobalEnable] at done
    exact effect done (.inl (same.fields rfl rfl rfl rfl rfl (.of_eq rfl)))
  | causeEnableWrite v => exact effect done (.inl (same.fields rfl rfl rfl rfl rfl (.of_eq rfl)))
  | parkTimeoutWrite v => exact effect done (.inl (same.fields rfl rfl rfl rfl rfl (.of_eq rfl)))
  | regionWrite i v => exact effect done (.inl (same.fields rfl rfl rfl rfl rfl (.of_eq rfl)))
  | stagingWrite w v =>
    dsimp only [exec, execStagingWrite] at done
    exact effect done (.inl (same.fields rfl rfl rfl rfl rfl (.of_eq rfl)))
  | pop v => exact effect done (.inl (same.fields rfl rfl rfl rfl rfl (.of_eq rfl)))
  | hostWrite w v =>
    have ends := fullWrite_ends draining w v (by simpa [resetsPart] using ordinary)
    exact effect done (by simpa only [commandsAperture, decide_eq_true_eq] using ends)
  | narrowWrite w lanes v =>
    dsimp only [exec, execNarrowWrite] at done
    split at done
    · cases done
    · refine effect done ?_
      split
      · rename_i full
        have ends := fullWrite_ends draining w v (by simpa [resetsPart, full] using ordinary)
        simpa only [commandsAperture, decide_eq_true_eq] using ends
      · exact .inl (same.fields rfl rfl rfl rfl rfl (setCause_grow _ _))
  | softReset | pinReset | resetRelease => cases ordinary
  | _ => exact absurd rfl own

/-- Settles O15: every act leaves no aperture due (`Tested.due`), keeps the counts (`step_keeps_countLaw`), and a Draining
aperture ends as `exec_ends` says; the bound is that of the requests not retired. -/
theorem drainsEndInTheEventThatAllowsThem : Obligations.DrainsEndInTheEventThatAllowsThem := by
  refine ⟨fun s t done => ⟨step_keeps_drainLaw done, step_keeps_countLaw done⟩, fun c s t n ordinary done draining => ?_,
    fun s requests counts n => (counts n).trans_le (requests.unretired_le n)⟩
  obtain ends | ⟨own, still, result, cause⟩ := exec_ends ordinary done draining
  · refine ⟨ends.course.imp_right fun shut => ?_, .inl ends.result⟩
    exact ⟨shut.closed, shut.count, shut.cause, shut.pages, shut.dirs, fun none =>
      (t.drained_iff n).2 ⟨shut.count, shut.quiet none⟩⟩
  · exact ⟨.inl still, .inr ⟨result, still, cause, own⟩⟩

end Sys2Proof.Machine

/-! PROOFS. The step; the laws right after reset; the commands Halt and Resume, and the commands that are refused. -/

namespace Sys2Proof.Machine

/-! ## The step -/

/-- Settles O1: the two cases of `step`, by the queue of commands. -/
theorem stepRunsTheFrontCommand : Obligations.StepRunsTheFrontCommand := by
  refine ⟨fun c rest s => rfl, fun s empty => ?_⟩
  simp [step, empty]

/-! ## The laws right after reset -/

/-- The state after reset is the one that RESET# low holds, with the pin high. -/
theorem hold_reset : hold State.reset = { State.reset with resetLow := true } := by decide

/-- RESET# low is a reset, and brings the state after reset about but for the pin. -/
theorem resetAct_reset : ResetAct State.reset { State.reset with resetLow := true } := hold_reset ▸ ResetAct.holds State.reset

theorem aperture_reset_state (n : ApertureId) : (State.reset.aperture n).state = .closed := by
  revert n; decide

/-- Settles O6: the laws that the resets bring about hold by the lemmas about resets, the others by the empty caches and tables. -/
theorem lawsHoldAtReset : Obligations.LawsHoldAtReset := by
  have closed := aperture_reset_state
  have requests : RequestLaw State.reset := resetAct_reset.keeps_requestLaw.of_same rfl rfl rfl rfl
  have fences : FenceLaw State.reset := resetAct_reset.keeps_fenceLaw.kept (.of_same rfl rfl rfl rfl rfl)
  have counts : CountLaw State.reset := resetAct_reset.keeps_countLaw.of_same rfl rfl rfl fun _ => rfl
  have drains : DrainLaw State.reset := fun n draining => by simp [closed] at draining
  have ports : PortLaw State.reset := fun m => .inr (by revert m; decide)
  have idle (c : ContextId) : State.reset.context c = none := by revert c; decide
  have unread (c : ContextId) : State.reset.readyTime c = none := by revert c; decide
  exact ⟨⟨by decide, .nil, by decide⟩, ⟨by decide, .nil⟩, ⟨nofun, nofun⟩,
    ⟨fun n live => absurd (closed n) live, fun n _ _ live => absurd (closed n) live⟩,
    ⟨fun v _ walks => by simp [idle] at walks, nofun, fun queued => absurd rfl queued⟩,
    ⟨fun c t ready => by simp [unread] at ready, fun t u ready => by simp [unread] at ready⟩,
    ⟨fun c w walks => by simp [idle] at walks, fun c => by revert c; decide⟩,
    .nil, requests.swept, ⟨by decide, .nil⟩, ⟨by decide, nofun⟩, fences, ports, drains,
    fun i => by revert i; decide, nofun, requests, counts⟩

/-! ## Halt, Resume and refusals -/

theorem exec_haltAperture {s : State} (high : s.resetLow = false) (n : ApertureId) :
    exec (.haltAperture n) s = .next (haltCommand n s) := whenReleased_of_high high _

theorem exec_resumeAperture {s : State} (high : s.resetLow = false) (n : ApertureId) :
    exec (.resumeAperture n) s = .next (resumeCommand n s) := whenReleased_of_high high _

theorem exec_openAperture {s : State} (high : s.resetLow = false) (n : ApertureId) :
    exec (.openAperture n) s = .next (openCommand n s) := whenReleased_of_high high _

theorem exec_closeAperture {s : State} (high : s.resetLow = false) (n : ApertureId) :
    exec (.closeAperture n) s = .next (closeCommand n s) := whenReleased_of_high high _

/-- Settles O17: the commands in the state that allows them, by the two cases of each. -/
theorem haltAndResumeMoveTheAperture : Obligations.HaltAndResumeMoveTheAperture := by
  intro n s high
  refine ⟨fun opened => ⟨_, exec_haltAperture high n, ?_⟩, fun halted => ⟨_, exec_resumeAperture high n, ?_⟩⟩
  · obtain ⟨-, h⟩ | ⟨other, -⟩ := haltCommand_cases n s
    · rw [h]
      exact ⟨fun o => s.aperture_setAperture n o _, rfl⟩
    · exact absurd opened other
  · obtain ⟨-, h⟩ | ⟨other, -⟩ := resumeCommand_cases n s
    · rw [h]
      exact ⟨fun o => s.aperture_setAperture n o _, rfl⟩
    · exact absurd halted other

/-- Settles O18: each of the four commands refuses outside its own states. -/
theorem forbiddenCommandsAreRefusedWithBadState : Obligations.ForbiddenCommandsAreRefusedWithBadState := by
  intro c n s high forbidden
  have refused {t : State} (next : exec c s = .next t) (same : t = refuseCommand n s) : ∃ t, exec c s = .next t ∧
      (∀ o, t.aperture o = if o = n then { s.aperture n with lastResult := .badState } else s.aperture o) ∧
      t = { s with apertures := t.apertures, causes := s.causes ||| 0x080 } :=
    ⟨t, next, same ▸ refuseCommand_aperture n s, same ▸ rfl⟩
  obtain ⟨rfl, state⟩ | ⟨rfl, opened, halted⟩ | ⟨rfl, state⟩ | ⟨rfl, state⟩ := forbidden
  · exact refused (exec_openAperture high n) (by simp [openCommand, state])
  · exact refused (exec_closeAperture high n) (by simp [closeCommand, opened, halted])
  · exact refused (exec_haltAperture high n) (by simp [haltCommand, state])
  · exact refused (exec_resumeAperture high n) (by simp [resumeCommand, state])

end Sys2Proof.Machine

/-! PROOFS. Discarded writes; the Open command and the end of a drain (chapter 1). -/

namespace Sys2Proof.Machine

/-! ## Discarded writes (section 10.2) -/

theorem programmingError_eq (code : ErrorCode) (offset : BitVec 12) (s : State) :
    programmingError code offset s = { s with causes := s.causes ||| 0x080, progError := ⟨code, offset⟩ } := rfl

theorem writeCommand_of_unnamed {v : Word} (one : v ≠ 1) (two : v ≠ 2) (three : v ≠ 3) (four : v ≠ 4) (n : ApertureId)
    (s : State) : writeCommand n v s = programmingError .badCommand (apertureOffset n 0x0C) s := by
  rw [writeCommand, if_neg one, if_neg two, if_neg three, if_neg four]

/-- Settles O57: a value that names no command, and a narrow write, come to `programmingError`. -/
theorem discardedWritesAreRecorded : Obligations.DiscardedWritesAreRecorded := by
  intro v s high
  refine ⟨fun n one two three four => ?_, fun w lanes some partly => ?_⟩
  · have offset : apertureOffset n 0x0C = BitVec.ofNat 12 (0x10C + 0x20 * n.val) :=
      congrArg (BitVec.ofNat 12) (by omega)
    refine (whenReleased_of_high high _).trans ?_
    rw [writeCommand_of_unnamed one two three four, programmingError_eq, offset]
  · change execNarrowWrite w lanes v s = _
    rw [execNarrowWrite, if_neg some, whenReleased_of_high high, if_neg partly]
    rfl

/-! ## The Open command (R14 to R16) -/

theorem Aperture.size_pos (a : Aperture) : 0 < a.size := by
  unfold Aperture.size
  positivity

/-- Two ranges that are not empty overlap exactly where they share an address. -/
theorem Aperture.overlaps_iff (a b : Aperture) : a.overlaps b = true ↔ ∃ x, a.base.toNat ≤ x ∧ x < a.base.toNat + a.size ∧
    b.base.toNat ≤ x ∧ x < b.base.toNat + b.size := by
  have pos := a.size_pos
  have pos' := b.size_pos
  simp only [Aperture.overlaps, Bool.and_eq_true, decide_eq_true_eq]
  constructor
  · exact fun ⟨h, h'⟩ => ⟨max a.base.toNat b.base.toNat, by omega, by omega, by omega, by omega⟩
  · rintro ⟨x, h⟩
    omega

/-- The last check of an Open, as a shared master address. -/
theorem State.overlapping_iff (s : State) (n : ApertureId) :
    (allApertures.any fun o => o != n && (s.aperture o).state != .closed && (s.aperture n).overlaps (s.aperture o)) = true ↔
      ∃ o x, o ≠ n ∧ (s.aperture o).state ≠ .closed ∧ (s.aperture n).base.toNat ≤ x ∧
        x < (s.aperture n).base.toNat + (s.aperture n).size ∧ (s.aperture o).base.toNat ≤ x ∧
        x < (s.aperture o).base.toNat + (s.aperture o).size := by
  simp only [List.any_eq_true, mem_allApertures, true_and, Bool.and_eq_true, bne_iff_ne, ne_eq, Aperture.overlaps_iff]
  exact ⟨fun ⟨o, ⟨other, live⟩, x, h⟩ => ⟨o, x, other, live, h⟩, fun ⟨o, x, other, live, h⟩ => ⟨o, ⟨other, live⟩, x, h⟩⟩

/-- An Open of a Closed aperture stores what its checks come to. -/
theorem openCommand_of_closed {n : ApertureId} {s : State} (closed : (s.aperture n).state = .closed) :
    (∀ o, (openCommand n s).aperture o = if o = n then
      { s.aperture n with state := if s.openCheck n = .opened then .opened else .closed, lastResult := s.openCheck n }
      else s.aperture o) ∧
    openCommand n s = { s with
      apertures := (openCommand n s).apertures
      causes := if s.openCheck n = .opened then s.causes else s.causes ||| 0x080 } := by
  obtain ⟨-, passes, h⟩ | ⟨-, fails, h⟩ | ⟨other, -⟩ := openCommand_cases n s
  · rw [h, passes]
    exact ⟨fun o => s.aperture_setAperture n o _, rfl⟩
  · rw [h, if_neg fails, if_neg fails]
    refine ⟨fun o => ?_, rfl⟩
    have same : { s.aperture n with state := ApertureState.closed, lastResult := s.openCheck n } =
        { s.aperture n with lastResult := s.openCheck n } := by rw [← closed]
    rw [same]
    exact setResult_aperture n (s.openCheck n) s o
  · exact absurd closed other

/-- Settles O19: the six tests of `openCheck`, each in the words of the manual. -/
theorem openValidatesTheDescriptorInOrder : Obligations.OpenValidatesTheDescriptorInOrder := by
  intro n s high closed
  refine ⟨_, s.openCheck n, exec_openAperture high n, ?_, openCommand_of_closed closed⟩
  intro a bytes shared
  have overlap := s.overlapping_iff n
  change _ ↔ shared at overlap
  have badSize : 8 < a.sizeCode.toNat ↔ 9 ≤ a.sizeCode.toNat := Iff.rfl
  have aligned : (a.base.toNat % a.size != 0) = true ↔ ¬ bytes ∣ a.base.toNat := by
    rw [bne_iff_ne, ne_eq, ← Nat.dvd_iff_mod_eq_zero]; rfl
  have tables : (decide (a.mode = .walked) && a.tableAddress.toNat % 16 != 0) = true ↔
      a.mode = .walked ∧ ¬ 16 ∣ a.tableAddress.toNat := by
    rw [Bool.and_eq_true, decide_eq_true_eq, bne_iff_ne, ne_eq, ← Nat.dvd_iff_mod_eq_zero]
  have frames : (decide (a.mode = .linear) && decide (a.pageSize = .k64) && a.baseFrame % 16 != 0) = true ↔
      a.mode = .linear ∧ a.pageSize = .k64 ∧ ¬ 16 ∣ a.tableAddress.toNat % 2 ^ 24 := by
    rw [Bool.and_eq_true, Bool.and_eq_true, decide_eq_true_eq, decide_eq_true_eq, bne_iff_ne, ne_eq,
      ← Nat.dvd_iff_mod_eq_zero, and_assoc]
    rfl
  simp only [State.openCheck]
  by_cases h : 9 ≤ a.sizeCode.toNat
  · rw [if_pos h, if_pos (badSize.2 h)]
  rw [if_neg h, if_neg (badSize.not.2 h)]
  by_cases h : ¬ bytes ∣ a.base.toNat
  · rw [if_pos h, if_pos (aligned.2 h)]
  rw [if_neg h, if_neg (aligned.not.2 h)]
  by_cases h : a.mode = .walked ∧ ¬ 16 ∣ a.tableAddress.toNat
  · rw [if_pos h, if_pos (tables.2 h)]
  rw [if_neg h, if_neg (tables.not.2 h)]
  by_cases h : a.mode = .linear ∧ a.pageSize = .k64 ∧ ¬ 16 ∣ a.tableAddress.toNat % 2 ^ 24
  · rw [if_pos h, if_pos (frames.2 h)]
  rw [if_neg h, if_neg (frames.not.2 h)]
  by_cases h : a.masterMask = 0
  · rw [if_pos h, if_pos h]
  rw [if_neg h, if_neg h]
  exact ⟨fun h => if_pos (overlap.2 h), fun h => if_neg (overlap.not.2 h)⟩

/-! ## The end of a drain (R19, R21, R66) -/

theorem drainTest_of_not_due {n : ApertureId} {s : State} (none : ¬ s.due n) : drainTest n s = s := by
  rw [drainTest, if_neg]
  simpa [State.due] using none

theorem drainTest_of_due {n : ApertureId} {s : State} (due : s.due n) : drainTest n s = closeNow n s := by
  rw [drainTest, if_pos]
  simpa [State.due] using due

theorem filter_aperture_ne {α : Type} (f : α → ApertureId) (n : ApertureId) (l : List α) :
    l.filter (fun e => f e != n) = l.filter (fun e => decide (f e ≠ n)) :=
  List.filter_congr fun e _ => by rw [Bool.eq_iff_iff, bne_iff_ne, decide_eq_true_iff]

/-- Aperture `n` reaches Closed with a last result. -/
theorem closeNow_setResult (n : ApertureId) (r : LastResult) (s : State) :
    (∀ o, (closeNow n (setResult n r s)).aperture o =
      if o = n then { s.aperture n with state := .closed, lastResult := r } else s.aperture o) ∧
    closeNow n (setResult n r s) = { s with
      apertures := (closeNow n (setResult n r s)).apertures
      pageCache := s.pageCache.filter (·.aperture ≠ n)
      dirCache := s.dirCache.filter (·.aperture ≠ n)
      causes := s.causes ||| 0x008 } := by
  refine ⟨fun o => ?_, ?_⟩
  · rw [closeNow_aperture, setResult_aperture, if_pos rfl]
    split
    · rfl
    · rename_i other; rw [setResult_aperture, if_neg other]
  · rw [← filter_aperture_ne, ← filter_aperture_ne]
    rfl

theorem setResult_self (n : ApertureId) (s : State) : setResult n (s.aperture n).lastResult s = s := by
  simp only [setResult, State.setAperture, State.aperture]
  congr 1
  exact Vector.set_getElem_self n.isLt

theorem setResult_drained (n o : ApertureId) (r : LastResult) (s : State) : (setResult n r s).drained o = s.drained o := by
  rw [Bool.eq_iff_iff, State.drained_iff, State.drained_iff, setResult_aperture, State.quiet_congr (s := s) (fun _ => rfl)]
  refine and_congr_left fun _ => ?_
  split
  · rename_i own; rw [own]
  · rfl

/-- Settles O20: the test of a drain, and a Close of an aperture that is drained already. -/
theorem closingRemovesTheCacheEntries : Obligations.ClosingRemovesTheCacheEntries := by
  refine ⟨fun n s undrained => ?_, fun c n s r high count quiet way => ?_⟩
  · have none : ¬ s.due n := fun due => by
      obtain ⟨draining, drained⟩ := due
      obtain ⟨zero, quiet⟩ := s.drained_iff n |>.1 drained
      obtain h | h | ⟨d, w, walks, own⟩ := undrained
      · exact h draining
      · exact h zero
      · exact quiet d w walks own
    change whenReleased s (drainTest n) = _
    rw [whenReleased, drainTest_of_not_due none, ite_self]
  · have drained := s.drained_iff n |>.2 ⟨count, quiet⟩
    have closes : exec c s = .next (closeNow n (setResult n r s)) := by
      obtain ⟨rfl, live, rfl⟩ | ⟨rfl, draining, rfl⟩ := way
      · have live' : (decide ((s.aperture n).state = .opened) || decide ((s.aperture n).state = .halted)) = true := by
          simpa using live
        rw [exec_closeAperture high, closeCommand]
        simp only [live', if_true, setResult_drained, drained]
      · rw [setResult_self]
        exact (whenReleased_of_high high _).trans (congrArg _ (drainTest_of_due ⟨draining, drained⟩))
    exact ⟨_, closes, closeNow_setResult n r s⟩

end Sys2Proof.Machine

/-! PROOFS. The words of the register window (section 10.6): what a word reads, field by field, and what a masked write reads
back. -/

namespace Sys2Proof.Machine

/-! ## Fields of a word -/

/-- A mask of `k` bits from bit `i` takes that field out; what lies below it is masked by the rest of the mask. -/
theorem and_field (n i k : Nat) {m : Nat} (low : m < 2 ^ i) :
    n &&& (2 ^ i * (2 ^ k - 1) + m) = 2 ^ i * (n / 2 ^ i % 2 ^ k) + (n &&& m) := by
  have field : n &&& 2 ^ i * (2 ^ k - 1) = 2 ^ i * (n / 2 ^ i % 2 ^ k) := by
    apply Nat.eq_of_testBit_eq
    intro j
    rw [Nat.testBit_and, Nat.mul_comm, Nat.mul_comm _ (_ % _), Nat.testBit_mul_two_pow, Nat.testBit_mul_two_pow,
      Nat.testBit_two_pow_sub_one, Nat.testBit_mod_two_pow, Nat.testBit_div_two_pow]
    by_cases above : i ≤ j
    · simp [above, Bool.and_comm]
    · simp [above]
  rw [Nat.two_pow_add_eq_or_of_lt low, Nat.and_or_distrib_left, field,
    ← Nat.two_pow_add_eq_or_of_lt (Nat.and_le_right.trans_lt low)]

theorem packWord_eq (l : List (Nat × Nat)) : packWord l = BitVec.ofNat 32 ((l.map fun f => f.1 * 2 ^ f.2).sum) := rfl

/-- A word is the packing of its fields when the fields add up to its value. -/
theorem packWord_eq_of_sum {l : List (Nat × Nat)} {v : Word} (sum : (l.map fun f => f.1 * 2 ^ f.2).sum = v.toNat) :
    packWord l = v := by
  rw [packWord_eq, sum, BitVec.ofNat_toNat, BitVec.setWidth_eq]

theorem bit_getLsbD {n : Nat} (v : BitVec n) (i : Nat) : bit (v.getLsbD i) = v.toNat / 2 ^ i % 2 := by
  rw [BitVec.getLsbD, Nat.testBit_eq_decide_div_mod_eq]
  obtain zero | one := Nat.mod_two_eq_zero_or_one (v.toNat / 2 ^ i)
  · simp [bit, zero]
  · simp [bit, one]

theorem toNat_extractLsb' {n : Nat} (v : BitVec n) (i k : Nat) : (v.extractLsb' i k).toNat = v.toNat / 2 ^ i % 2 ^ k := by
  rw [BitVec.extractLsb'_toNat, Nat.shiftRight_eq_div_pow]

/-! ## Descriptor words (section 10.6) -/

theorem bit_pageSize (b : Bool) : bit (decide (PageSize.ofBit b = .k64)) = bit b := by
  cases b <;> simp [PageSize.ofBit]

theorem bit_mode (b : Bool) : bit (decide (Mode.ofBit b = .linear)) = bit b := by
  cases b <;> simp [Mode.ofBit]

theorem bit_linearAccess (b : Bool) :
    bit (decide (LinearAccess.ofBit b = .readOnly)) = bit b := by
  cases b <;> simp [LinearAccess.ofBit]

/-- The attributes word reads back bits 21 to 16 and 8 to 0 of what was stored (R25). -/
theorem attributesWord_storeAttributes (a : Aperture) (v : Word) : (a.storeAttributes v).attributesWord = v &&& 0x003F01FF := by
  have masked : (v &&& 0x003F01FF : Word).toNat = 2 ^ 16 * (v.toNat / 2 ^ 16 % 2 ^ 6) + (2 ^ 0 * (v.toNat / 2 ^ 0 % 2 ^ 9) + 0) := by
    rw [BitVec.toNat_and]
    exact (and_field v.toNat 16 6 (m := 2 ^ 0 * (2 ^ 9 - 1) + 0) (by decide)).trans
      (congrArg _ ((and_field v.toNat 0 9 (m := 0) (by decide)).trans (by rw [Nat.and_zero])))
  refine packWord_eq_of_sum ?_
  rw [masked]
  have pageSize : bit (decide ((a.storeAttributes v).pageSize = .k64)) = v.toNat / 2 ^ 4 % 2 :=
    (bit_pageSize _).trans (bit_getLsbD v 4)
  have mode : bit (decide ((a.storeAttributes v).mode = .linear)) = v.toNat / 2 ^ 5 % 2 := (bit_mode _).trans (bit_getLsbD v 5)
  have linearAccess : bit (decide ((a.storeAttributes v).linearAccess = .readOnly)) = v.toNat / 2 ^ 6 % 2 :=
    (bit_linearAccess _).trans (bit_getLsbD v 6)
  rw [pageSize, mode, linearAccess]
  simp only [Aperture.storeAttributes, bit_getLsbD, toNat_extractLsb', List.map_cons, List.map_nil, List.sum_cons, List.sum_nil]
  omega

theorem Aperture.store_status (a : Aperture) (w : DescriptorWord) (v : Word) : (a.store w v).state = a.state ∧
    (a.store w v).lastResult = a.lastResult ∧ (a.store w v).count = a.count := by
  cases w <;> exact ⟨rfl, rfl, rfl⟩

/-- What a descriptor word reads after it is stored, and what the other two read. -/
theorem readWord_store (n : ApertureId) (w x : DescriptorWord) (v : Word) (s : State) :
    (s.setAperture n ((s.aperture n).store w v)).readWord (.descriptor n x) =
      if x = w then (if w = .attributes then v &&& 0x003F01FF else v) else s.readWord (.descriptor n x) := by
  have own := s.aperture_setAperture n n ((s.aperture n).store w v)
  rw [if_pos rfl] at own
  cases w with
  | attributes =>
    cases x with
    | attributes =>
      change (State.aperture _ n).attributesWord = _
      rw [own]
      exact attributesWord_storeAttributes (s.aperture n) v
    | base | tableAddress => simp [State.readWord, Aperture.store, Aperture.storeAttributes]
  | base | tableAddress =>
    cases x <;> simp [State.readWord, Aperture.store, Aperture.attributesWord]

/-- The offset of a descriptor word (section 10.1). -/
theorem descriptorOffset_eq (n : ApertureId) (w : DescriptorWord) : descriptorOffset n w = BitVec.ofNat 12
    (0x100 + 0x20 * n.val + (match w with | .base => 0 | .attributes => 4 | .tableAddress => 8)) := by
  cases w <;> rfl

/-- Settles O22: the two cases of `writeDescriptor`, the first read back through the words of the descriptor. -/
theorem descriptorWritesStoreOnlyWhileClosed : Obligations.DescriptorWritesStoreOnlyWhileClosed := by
  intro n w v s high
  refine ⟨writeDescriptor n w v s, whenReleased_of_high high _, fun closed => ?_, fun busy => ?_⟩
  · have stored : writeDescriptor n w v s = s.setAperture n ((s.aperture n).store w v) := by simp [writeDescriptor, closed]
    obtain ⟨state, result, count⟩ := (s.aperture n).store_status w v
    rw [stored, readWord_store, if_pos rfl]
    refine ⟨rfl, fun x other => ?_, ?_, ?_, ?_, fun o other => ?_, rfl⟩
    · rw [readWord_store, if_neg other]
    · simpa [state] using closed
    · simpa using result
    · simpa using count
    · simp [other]
  · rw [writeDescriptor, if_neg busy, descriptorOffset_eq]
    rfl

end Sys2Proof.Machine

/-! PROOFS. The register map (section 10.1): which word an offset reads and writes, and what every word reads. -/

namespace Sys2Proof.Machine

/-! ## Full writes (R168, R170) -/

/-- A word that a full write stores nothing in: it is read-only or unassigned. -/
def WindowWord.readOnly : WindowWord → Bool
  | .identification | .configuration | .globalStatus | .programmingError | .fenceToken | .queueStatus
  | .faultRecord _ | .logStatus | .status _ | .unassigned => true
  | .globalControl | .cause | .causeEnable | .parkTimeout | .region _ | .portControl _ | .staging _ | .push | .pop
  | .descriptor _ _ | .command _ => false

theorem fullWrite_of_readOnly {w : WordIndex} (readOnly : (wordAt w).readOnly = true) (v : Word) (s : State) :
    fullWrite w v s = s := by
  unfold fullWrite
  generalize wordAt w = word at readOnly
  cases word with
  | globalControl | cause | causeEnable | parkTimeout | region | portControl | staging | push | pop | descriptor | command =>
    cases readOnly
  | _ => rfl

theorem exec_hostWrite (w : WordIndex) (v : Word) (s : State) : exec (.hostWrite w v) s = whenReleased s (fullWrite w v) := rfl

/-- The read-only words and the unassigned offsets of section 10.1. -/
theorem readOnly_of_offset (w : WordIndex) :
    (let o := 4 * w.toNat
     o ∈ [0x000, 0x004, 0x00C, 0x01C, 0x020, 0x06C, 0x080, 0x084, 0x088, 0x08C, 0x094] ∨
     (0x024 ≤ o ∧ o ≤ 0x02C) ∨ (0x058 ≤ o ∧ o ≤ 0x05C) ∨ (0x070 ≤ o ∧ o ≤ 0x07C) ∨ (0x098 ≤ o ∧ o ≤ 0x0FC) ∨
     (0x100 ≤ o ∧ o < 0x200 ∧ 0x10 ≤ o % 0x20) ∨ 0x200 ≤ o) → (wordAt w).readOnly = true := by
  revert w; decide

theorem wordAt_region (i : RegionId) : wordAt (BitVec.ofNat 10 (12 + i.val)) = .region i := by revert i; decide
theorem wordAt_portControl (m : Master) : wordAt (BitVec.ofNat 10 (16 + m.val)) = .portControl m := by revert m; decide
theorem wordAt_base (n : ApertureId) : wordAt (BitVec.ofNat 10 (64 + 8 * n.val)) = .descriptor n .base := by revert n; decide
theorem wordAt_attributes (n : ApertureId) : wordAt (BitVec.ofNat 10 (65 + 8 * n.val)) = .descriptor n .attributes := by
  revert n; decide
theorem wordAt_tableAddress (n : ApertureId) : wordAt (BitVec.ofNat 10 (66 + 8 * n.val)) = .descriptor n .tableAddress := by
  revert n; decide
theorem wordAt_command (n : ApertureId) : wordAt (BitVec.ofNat 10 (67 + 8 * n.val)) = .command n := by revert n; decide

/-- A full write to a word is the event of the word's owner. -/
theorem exec_hostWrite_of {w : WordIndex} {v : Word} {s : State} {f : State → State} (owner : fullWrite w v s = f s) :
    exec (.hostWrite w v) s = whenReleased s f := by
  rw [exec_hostWrite, whenReleased, owner]
  rfl

theorem writeCommand_named (n : ApertureId) (v : Word) (s : State) : whenReleased s (writeCommand n v) =
    exec (if v = 1 then .openAperture n else if v = 2 then .closeAperture n else if v = 3 then .haltAperture n
      else if v = 4 then .resumeAperture n else .badCommand n v) s := by
  by_cases one : v = 1
  · subst one; rfl
  by_cases two : v = 2
  · subst two; rfl
  by_cases three : v = 3
  · subst three; rfl
  by_cases four : v = 4
  · subst four; rfl
  rw [if_neg one, if_neg two, if_neg three, if_neg four]
  rfl

/-- Settles O56: the word at each index, and `fullWrite` for that word. -/
theorem fullWritesReachTheOwnerOfTheWord : Obligations.FullWritesReachTheOwnerOfTheWord := by
  intro v s
  refine ⟨?_, rfl, rfl, rfl, fun i => ?_, fun m => ?_, rfl, rfl, rfl, rfl, fun n => ⟨?_, ?_, ?_, ?_⟩, fun w high readOnly => ?_⟩
  · have owner : exec (.hostWrite 2 v) s = whenReleased s (writeGlobalControl v) := rfl
    rw [owner]
    by_cases reset : v.getLsbD 1 = true
    · have act : writeGlobalControl v = softReset := funext fun s => if_pos reset
      rw [if_pos reset, act]
      rfl
    · have act : writeGlobalControl v = fun s => { s with globalEnable := v.getLsbD 0 } := funext fun s => if_neg reset
      rw [if_neg reset, act]
      rfl
  · exact exec_hostWrite_of (f := writeRegion i v) (by rw [fullWrite, wordAt_region])
  · rw [exec_hostWrite_of (f := writePortControl m v) (by rw [fullWrite, wordAt_portControl])]
    by_cases reset : v.getLsbD 1 = true
    · have act : writePortControl m v = fun s => resetPort m (storeEnable m (v.getLsbD 0) s) := funext fun s => if_pos reset
      rw [if_pos reset, act]
      rfl
    · have act : writePortControl m v = storeEnable m (v.getLsbD 0) := funext fun s => if_neg reset
      rw [if_neg reset, act]
      rfl
  · exact exec_hostWrite_of (f := writeDescriptor n .base v) (by rw [fullWrite, wordAt_base])
  · exact exec_hostWrite_of (f := writeDescriptor n .attributes v) (by rw [fullWrite, wordAt_attributes])
  · exact exec_hostWrite_of (f := writeDescriptor n .tableAddress v) (by rw [fullWrite, wordAt_tableAddress])
  · rw [exec_hostWrite_of (f := writeCommand n v) (by rw [fullWrite, wordAt_command]), writeCommand_named]
  · rw [exec_hostWrite, whenReleased_of_high high, fullWrite_of_readOnly (readOnly_of_offset w readOnly)]

/-! ## Reads (R168, R169) -/

theorem laneMask_full : laneMask 15 = BitVec.allOnes 32 := by decide

theorem State.hostRead_full {s : State} (high : s.resetLow = false) (w : WordIndex) : s.hostRead w 15 = s.readWord (wordAt w) := by
  rw [State.hostRead, high, laneMask_full, BitVec.and_allOnes]
  rfl

/-- A lane of the mask is all ones where the lane is addressed. -/
theorem laneMask_lane (lanes : BitVec 4) (i : Fin 4) : (laneMask lanes).extractLsb' (8 * i.val) 8 =
    if lanes.getLsbD i.val then BitVec.allOnes 8 else 0 := by
  revert lanes i; decide

/-- A narrow read returns the lanes that it addresses (R169). -/
theorem State.hostRead_lane (s : State) (w : WordIndex) (lanes : BitVec 4) (i : Fin 4) :
    (s.hostRead w lanes).extractLsb' (8 * i.val) 8 =
      if lanes.getLsbD i.val then (s.hostRead w 15).extractLsb' (8 * i.val) 8 else 0 := by
  simp only [State.hostRead]
  split
  · simp
  · rw [BitVec.extractLsb'_and, laneMask_lane, laneMask_full, BitVec.and_allOnes]
    split
    · rw [BitVec.and_allOnes]
    · rw [BitVec.ofNat_eq_ofNat, BitVec.and_zero]

/-- The unassigned offsets of section 10.1. -/
theorem unassigned_of_offset (w : WordIndex) :
    (let o := 4 * w.toNat
     (0x024 ≤ o ∧ o ≤ 0x02C) ∨ (0x058 ≤ o ∧ o ≤ 0x05C) ∨ (0x070 ≤ o ∧ o ≤ 0x07C) ∨ (0x098 ≤ o ∧ o ≤ 0x0FC) ∨
     (0x100 ≤ o ∧ o < 0x200 ∧ 0x14 ≤ o % 0x20) ∨ 0x200 ≤ o) → wordAt w = .unassigned := by
  revert w; decide

/-- What every offset reads, given the word at its index. -/
theorem State.reads_of {s : State} (high : s.resetLow = false) {w : WordIndex} {x : WindowWord} (word : wordAt w = x) :
    s.hostRead w 15 = s.readWord x := by
  rw [State.hostRead_full high, word]

/-- The register map (section 10.1). -/
theorem wordAt_of_offset :
    (∀ i : RegionId, wordAt (BitVec.ofNat 10 ((0x030 + 4 * i.val) / 4)) = .region i) ∧
    (∀ m : Master, wordAt (BitVec.ofNat 10 ((0x040 + 4 * m.val) / 4)) = .portControl m) ∧
    (∀ k : Fin 4, wordAt (BitVec.ofNat 10 ((0x080 + 4 * k.val) / 4)) = .faultRecord k) ∧
    (∀ n : ApertureId, wordAt (BitVec.ofNat 10 ((0x100 + 0x20 * n.val) / 4)) = .descriptor n .base) ∧
    (∀ n : ApertureId, wordAt (BitVec.ofNat 10 ((0x104 + 0x20 * n.val) / 4)) = .descriptor n .attributes) ∧
    (∀ n : ApertureId, wordAt (BitVec.ofNat 10 ((0x108 + 0x20 * n.val) / 4)) = .descriptor n .tableAddress) ∧
    (∀ n : ApertureId, wordAt (BitVec.ofNat 10 ((0x110 + 0x20 * n.val) / 4)) = .status n) := by decide

/-! ## What the words read (sections 10.3 to 10.6) -/

/-- A packed word is the number that its fields add up to. -/
theorem packWord_eq_ofNat {l : List (Nat × Nat)} {x : Nat} (sum : (l.map fun f => f.1 * 2 ^ f.2).sum = x) :
    packWord l = BitVec.ofNat 32 x := by
  rw [packWord_eq, sum]

theorem setWidth_eq_ofNat {n : Nat} (x : BitVec n) : x.setWidth 32 = BitVec.ofNat 32 x.toNat := by
  rw [BitVec.ofNat_toNat]

theorem toList_two {α : Type} (v : Vector α 2) : v.toList = [v[(0 : ContextId)], v[(1 : ContextId)]] := by
  obtain ⟨⟨l⟩, h⟩ := v
  match l, h with
  | [_, _], _ => rfl

theorem toList_four {α : Type} (v : Vector α 4) : v.toList = ([0, 1, 2, 3] : List Tag).map fun g => v[g] := by
  obtain ⟨⟨l⟩, h⟩ := v
  match l, h with
  | [_, _, _, _], _ => rfl

theorem State.walksInFlight_eq (s : State) : s.walksInFlight = bit (s.context 0).isSome + bit (s.context 1).isSome := by
  simp only [State.walksInFlight, toList_two, State.context]
  generalize s.contexts[(0 : ContextId)] = a
  generalize s.contexts[(1 : ContextId)] = b
  cases a <;> cases b <;> rfl

theorem Port.tagsInUse_eq (p : Port) : p.tagsInUse = ([0, 1, 2, 3] : List Tag).countP fun g => (p.tag g).isSome := by
  rw [Port.tagsInUse, toList_four, List.countP_map]
  rfl

/-- The fields of a packed word, summed. -/
theorem packWord_one (a : Nat) : packWord [(a, 0)] = BitVec.ofNat 32 a := packWord_eq_ofNat (by simp)

theorem packWord_two (a b j : Nat) : packWord [(a, 0), (b, j)] = BitVec.ofNat 32 (b * 2 ^ j + a) :=
  packWord_eq_ofNat (by simp [Nat.add_comm])

theorem packWord_three (a b c j k : Nat) : packWord [(a, 0), (b, j), (c, k)] = BitVec.ofNat 32 (c * 2 ^ k + b * 2 ^ j + a) :=
  packWord_eq_ofNat (by simp; omega)

theorem packWord_four (a b c d j k l : Nat) :
    packWord [(a, 0), (b, j), (c, k), (d, l)] = BitVec.ofNat 32 (d * 2 ^ l + c * 2 ^ k + b * 2 ^ j + a) :=
  packWord_eq_ofNat (by simp; omega)

theorem packWord_five (a b c d e j k l m : Nat) : packWord [(a, 0), (b, j), (c, k), (d, l), (e, m)] =
    BitVec.ofNat 32 (e * 2 ^ m + d * 2 ^ l + c * 2 ^ k + b * 2 ^ j + a) :=
  packWord_eq_ofNat (by simp; omega)

theorem packWord_seven (a b c d e f g j k l m n o : Nat) :
    packWord [(a, 0), (b, j), (c, k), (d, l), (e, m), (f, n), (g, o)] =
    BitVec.ofNat 32 (g * 2 ^ o + f * 2 ^ n + e * 2 ^ m + d * 2 ^ l + c * 2 ^ k + b * 2 ^ j + a) :=
  packWord_eq_ofNat (by simp; omega)

/-! ## What a stored word reads back -/

theorem toNat_and_low (v : Word) (k : Nat) (small : k ≤ 32) : (v &&& BitVec.ofNat 32 (2 ^ k - 1)).toNat = v.toNat % 2 ^ k := by
  have fits : (2 ^ k - 1) % 2 ^ 32 = 2 ^ k - 1 :=
    Nat.mod_eq_of_lt ((Nat.sub_lt (by positivity) one_pos).trans_le (Nat.pow_le_pow_right (by decide) small))
  rw [BitVec.toNat_and, BitVec.toNat_ofNat, fits, Nat.and_two_pow_sub_one_eq_mod]

theorem parkTimeout_word (v : Word) : (v.extractLsb' 0 8).setWidth 32 = v &&& 0xFF := by
  apply BitVec.eq_of_toNat_eq
  have masked : (v &&& 0xFF : Word).toNat = v.toNat % 2 ^ 8 := toNat_and_low v 8 (by decide)
  rw [masked, BitVec.toNat_setWidth, toNat_extractLsb']
  omega

theorem stagingWord_zero (g : Staging) (v : Word) : (g.store .zero v).word0 = v &&& 0xFFFF00F7 := by
  have masked : (v &&& 0xFFFF00F7 : Word).toNat =
      2 ^ 16 * (v.toNat / 2 ^ 16 % 2 ^ 16) + (2 ^ 4 * (v.toNat / 2 ^ 4 % 2 ^ 4) + (2 ^ 0 * (v.toNat / 2 ^ 0 % 2 ^ 3) + 0)) := by
    rw [BitVec.toNat_and]
    refine (and_field v.toNat 16 16 (m := 2 ^ 4 * (2 ^ 4 - 1) + (2 ^ 0 * (2 ^ 3 - 1) + 0)) (by decide)).trans (congrArg _ ?_)
    refine (and_field v.toNat 4 4 (m := 2 ^ 0 * (2 ^ 3 - 1) + 0) (by decide)).trans (congrArg _ ?_)
    exact (and_field v.toNat 0 3 (m := 0) (by decide)).trans (by rw [Nat.and_zero])
  refine packWord_eq_of_sum ?_
  rw [masked]
  have aperture : ((v.extractLsb' 4 3).toFin : Fin (2 ^ 3)).val = v.toNat / 2 ^ 4 % 2 ^ 3 := toNat_extractLsb' v 4 3
  have bound := v.isLt
  simp only [Staging.store, bit_getLsbD, toNat_extractLsb', List.map_cons, List.map_nil, List.sum_cons, List.sum_nil]
  rw [aperture]
  omega

theorem stagingWord_one (g : Staging) (v : Word) : (g.store .one v).word1 = v := by
  refine packWord_eq_of_sum ?_
  have bound := v.isLt
  simp only [Staging.store, toNat_extractLsb', List.map_cons, List.map_nil, List.sum_cons, List.sum_nil]
  omega

end Sys2Proof.Machine

/-! PROOFS. What the words of the register window read, and what a stored word reads back (chapter 10). -/

namespace Sys2Proof.Machine

/-! ## Region words (R57, R179) -/

theorem RegionAttr.code_ofBits (b : BitVec 2) : (RegionAttr.ofBits b).code = if b.toNat = 3 then 2 else b.toNat := by
  revert b; decide

theorem toNat_and_attr (v : Word) : (v &&& 0x30000000 : Word).toNat = 2 ^ 28 * (v.toNat / 2 ^ 28 % 2 ^ 2) := by
  rw [BitVec.toNat_and]
  exact (and_field v.toNat 28 2 (m := 0) (by decide)).trans (by rw [Nat.and_zero, Nat.add_zero])

theorem toNat_clamped (v : Word) : (if v &&& 0x1FFFFFF > 0x1000000 then 0x1000000 else v &&& 0x1FFFFFF : Word).toNat =
    min (v.toNat % 2 ^ 25) 0x1000000 := by
  have low : (v &&& 0x1FFFFFF : Word).toNat = v.toNat % 2 ^ 25 := toNat_and_low v 25 (by decide)
  have limit : (0x1000000 : Word).toNat = 0x1000000 := rfl
  simp only [gt_iff_lt, BitVec.lt_def, low, limit, apply_ite BitVec.toNat]
  split_ifs <;> omega

theorem toNat_attr (v : Word) : (if v &&& 0x30000000 = 0x30000000 then 0x20000000 else v &&& 0x30000000 : Word).toNat =
    2 ^ 28 * (if v.toNat / 2 ^ 28 % 2 ^ 2 = 3 then 2 else v.toNat / 2 ^ 28 % 2 ^ 2) := by
  have absent : (0x20000000 : Word).toNat = 2 ^ 28 * 2 := rfl
  have all : (0x30000000 : Word).toNat = 2 ^ 28 * 3 := rfl
  simp only [← BitVec.toNat_inj, toNat_and_attr, all, absent, apply_ite BitVec.toNat]
  split_ifs <;> omega

theorem toNat_clamp (x : BitVec 25) : (if x > 0x1000000#25 then 0x1000000 else x).toNat = min x.toNat 0x1000000 := by
  split_ifs <;> bv_omega

theorem Region.endFrame_ofWord (v : Word) : (Region.ofWord v).endFrame.toNat = min (v.toNat % 2 ^ 25) 0x1000000 := by
  have field : (v.extractLsb' 0 25).toNat = v.toNat % 2 ^ 25 := by rw [toNat_extractLsb', pow_zero, Nat.div_one]
  exact (toNat_clamp (v.extractLsb' 0 25)).trans (congrArg (fun x => min x 0x1000000) field)

/-- A region word reads back with its end clamped and kind 3 as Absent. -/
theorem Region.word_ofWord (v : Word) : (Region.ofWord v).word =
    (if v &&& 0x1FFFFFF > 0x1000000 then 0x1000000 else v &&& 0x1FFFFFF) |||
      (if v &&& 0x30000000 = 0x30000000 then 0x20000000 else v &&& 0x30000000) := by
  have code : (Region.ofWord v).attr.code = if v.toNat / 2 ^ 28 % 2 ^ 2 = 3 then 2 else v.toNat / 2 ^ 28 % 2 ^ 2 := by
    rw [← toNat_extractLsb' v 28 2]
    exact RegionAttr.code_ofBits _
  refine ((packWord_two _ _ _).trans (congrArg (BitVec.ofNat 32) ?_)).trans ((BitVec.ofNat_toNat _ _).trans (BitVec.setWidth_eq _))
  rw [BitVec.toNat_or, toNat_clamped, toNat_attr, Nat.or_comm, ← Nat.two_pow_add_eq_or_of_lt (by omega),
    Region.endFrame_ofWord, code, Nat.mul_comm]

/-! ## What every word reads -/

/-- The bit of a field that holds one of two values. -/
theorem bit_decide (p : Prop) [Decidable p] : bit (decide p) = if p then 1 else 0 := by
  by_cases h : p <;> simp [bit, h]

theorem RegionAttr.code_eq (x : RegionAttr) : x.code = (match x with
    | .normal => 0
    | .readOnly => 1
    | .absent => 2) := by cases x <;> rfl

theorem Aperture.attributesWord_eq (a : Aperture) : a.attributesWord = BitVec.ofNat 32 (a.masterMask.toNat * 2 ^ 16 +
    bit a.haltOnFault * 2 ^ 8 + bit a.posting * 2 ^ 7 + (match a.linearAccess with
      | .readWrite => 0
      | .readOnly => 1) * 2 ^ 6 + (match a.mode with
      | .walked => 0
      | .linear => 1) * 2 ^ 5 + (match a.pageSize with
      | .k4 => 0
      | .k64 => 1) * 2 ^ 4 + a.sizeCode.toNat) := by
  have access : bit (decide (a.linearAccess = .readOnly)) = (match a.linearAccess with | .readWrite => 0 | .readOnly => 1) := by
    cases a.linearAccess <;> rfl
  have mode : bit (decide (a.mode = .linear)) = (match a.mode with | .walked => 0 | .linear => 1) := by cases a.mode <;> rfl
  have size : bit (decide (a.pageSize = .k64)) = (match a.pageSize with | .k4 => 0 | .k64 => 1) := by cases a.pageSize <;> rfl
  rw [← access, ← mode, ← size]
  exact packWord_seven _ _ _ _ _ _ _ _ _ _ _ _ _

theorem Aperture.statusWord_eq (a : Aperture) : a.statusWord = BitVec.ofNat 32 (a.count * 2 ^ 16 + (match a.lastResult with
    | .none => 0
    | .opened => 1
    | .closed => 2
    | .halted => 3
    | .resumed => 4
    | .badState => 5
    | .badSize => 6
    | .baseMisaligned => 7
    | .tableMisaligned => 8
    | .frameMisaligned => 9
    | .noMasters => 10
    | .overlap => 11) * 2 ^ 4 + (match a.state with
    | .closed => 0
    | .opened => 1
    | .draining => 2
    | .halted => 3)) := by
  refine (packWord_three _ _ _ _ _).trans (congrArg (BitVec.ofNat 32) ?_)
  cases a.lastResult <;> cases a.state <;> rfl

theorem Port.controlWord_eq (p : Port) : p.controlWord = BitVec.ofNat 32 (
    ([0, 1, 2, 3] : List Tag).countP (fun g => (p.tag g).isSome) * 2 ^ 8 + (match p.state with
      | .active => 0
      | .disabled => 1
      | .resetting => 2) * 2 ^ 4 + bit p.enable) := by
  refine (packWord_three _ _ _ _ _).trans (congrArg (BitVec.ofNat 32) ?_)
  rw [Port.tagsInUse_eq]
  cases p.state <;> rfl

theorem State.globalStatus_eq (s : State) : s.globalStatus = BitVec.ofNat 32 (s.invQueue.length * 2 ^ 24 +
    s.inFlight.countP (· = .discarded) * 2 ^ 16 + s.inFlight.length * 2 ^ 12 +
    (bit (s.context 0).isSome + bit (s.context 1).isSome) * 2 ^ 8 + s.park.length) := by
  rw [← s.walksInFlight_eq]
  exact packWord_five _ _ _ _ _ _ _ _ _

theorem ProgError.word_eq (p : ProgError) : p.word = BitVec.ofNat 32 (p.offset.toNat * 2 ^ 16 + match p.code with
    | .none => 0
    | .accessWidth => 1
    | .descriptorBusy => 2
    | .badCommand => 3) := by
  refine (packWord_two _ _ _).trans (congrArg (BitVec.ofNat 32) ?_)
  cases p.code <;> rfl

theorem Region.word_eq (r : Region) : r.word = BitVec.ofNat 32 ((match r.attr with
    | .normal => 0
    | .readOnly => 1
    | .absent => 2) * 2 ^ 28 + r.endFrame.toNat) := by
  refine (packWord_two _ _ _).trans (congrArg (BitVec.ofNat 32) ?_)
  cases r.attr <;> rfl

/-! ## What the host stores -/

/-- A region write changes its own region word alone. -/
theorem readWord_writeRegion (i j : RegionId) (v : Word) (s : State) : (writeRegion i v s).readWord (.region j) =
    if j = i then (Region.ofWord v).word else s.readWord (.region j) := by
  by_cases own : j = i
  · subst own; simp [State.readWord, writeRegion]
  · simp [State.readWord, writeRegion, own, Fin.val_ne_of_ne (Ne.symm own)]

/-- The stored words read back, and nothing else changes. -/
theorem stores_read_back {s : State} (high : s.resetLow = false) (v : Word) :
    (∀ b, exec (.globalEnable b) s = .next { s with globalEnable := b }) ∧
    (exec (.parkTimeoutWrite v) s = .next (writeParkTimeout v s)) ∧
    (∀ i, exec (.regionWrite i v) s = .next (writeRegion i v s)) ∧
    ∀ w, exec (.stagingWrite w v) s = .next { s with staging := s.staging.store w v } := by
  have effect (f : State → State) : whenReleased s f = .next (f s) := whenReleased_of_high high f
  exact ⟨fun b => effect fun s => { s with globalEnable := b }, effect _, fun i => effect _,
    fun w => effect fun s => { s with staging := s.staging.store w v }⟩

/-- Settles O55: the words by `packWord`'s fields, the map by `wordAt`, the lanes by `laneMask`, and the stored words by the
masks of their fields. -/
theorem storedWordsReadBack : Obligations.StoredWordsReadBack := by
  refine ⟨?_, ?_, State.hostRead_lane, fun v s high => ?_⟩
  · intro s bit word
    exact ⟨rfl, packWord_four _ _ _ _ _ _ _, packWord_one _, s.globalStatus_eq, s.progError.word_eq, setWidth_eq_ofNat _,
      setWidth_eq_ofNat _, setWidth_eq_ofNat _, fun i => (s.regions[i]).word_eq, packWord_four _ _ _ _ _ _ _,
      packWord_two _ _ _, fun n => ⟨rfl, rfl, (s.aperture n).attributesWord_eq⟩, setWidth_eq_ofNat _,
      packWord_three _ _ _ _ _, packWord_two _ _ _, fun m => (s.port m).controlWord_eq,
      fun n => (s.aperture n).statusWord_eq⟩
  · intro s high reads
    obtain ⟨region, port, record, base, attributes, table, status⟩ := wordAt_of_offset
    have at' {w : WordIndex} {x : WindowWord} (word : wordAt w = x) : s.hostRead w 15 = s.readWord x := s.reads_of high word
    exact ⟨at' rfl, at' rfl, at' rfl, at' rfl, at' rfl, at' rfl, at' rfl, at' rfl, at' rfl, fun i => at' (region i),
      fun m => at' (port m), at' rfl, at' rfl, at' (x := .push) rfl, at' rfl, fun k => at' (record k), at' (x := .pop) rfl,
      at' rfl, fun n => ⟨at' (base n), at' (attributes n), at' (table n), at' (wordAt_command n), at' (status n)⟩,
      fun w unassigned => at' (unassigned_of_offset w unassigned)⟩
  · obtain ⟨enable, timeout, region, staging⟩ := stores_read_back high v
    refine ⟨enable, ⟨_, timeout, parkTimeout_word v, rfl⟩, fun i => ⟨_, region i, ?_, fun j other => ?_, rfl⟩,
      ⟨_, staging .zero, stagingWord_zero s.staging v, rfl, rfl⟩, ⟨_, staging .one, stagingWord_one s.staging v, rfl, rfl⟩⟩
    · rw [readWord_writeRegion, if_pos rfl, Region.word_ofWord]
    · rw [readWord_writeRegion, if_neg other]

end Sys2Proof.Machine

/-! PROOFS. The soft reset and the release of RESET# (section 10.4, R26, R47). -/

namespace Sys2Proof.Machine

/-! ## The words after a reset (R183) -/

/-- What a reset under a latched strap leaves, as far as the words read it. -/
structure AfterReset (pass : Bool) (s : State) : Prop where
  passLatched : s.passLatched = pass
  globalEnable : s.globalEnable = pass
  causes : s.causes = 0
  parkTimeout : s.parkTimeout = 0
  progError : s.progError = ⟨.none, 0⟩
  regions : s.regions = regionsReset
  ports : ∀ m, ∃ taken, s.port m = { Port.reset with taken := taken }
  staging : s.staging = Staging.reset
  invQueue : s.invQueue = []
  fenceWaiting : s.fenceWaiting = false
  fenceCounter : s.fenceCounter = 0
  log : s.log = []
  overflow : s.overflow = false
  apertures : ∀ n, s.aperture n = if pass = true ∧ n = 0 then Aperture.strapOpened else Aperture.reset

theorem controlWord_reset (taken : Nat) : ({ Port.reset with taken := taken } : Port).controlWord = 1 := by
  change packWord [(1, 0), (0, 4), (0, 8)] = 1
  decide

theorem AfterReset.aperture_of_ne {pass : Bool} {s : State} (after : AfterReset pass s) {n : ApertureId} (other : n ≠ 0) :
    s.aperture n = Aperture.reset := by
  rw [after.apertures, if_neg fun h => other h.2]

theorem AfterReset.aperture_zero {pass : Bool} {s : State} (after : AfterReset pass s) :
    s.aperture 0 = if pass then Aperture.strapOpened else Aperture.reset := by
  rw [after.apertures]
  cases pass <;> rfl

theorem AfterReset.words {pass : Bool} {s : State} (after : AfterReset pass s) : ResetWords pass s where
  identification := rfl
  configuration := by
    change packWord [(bit s.passLatched, 0), (6, 4), (16, 8), (32, 16)] = _
    rw [after.passLatched]
    cases pass <;> rfl
  globalControl := by
    change packWord [(bit s.globalEnable, 0)] = _
    rw [after.globalEnable]
    cases pass <;> rfl
  cause := congrArg (BitVec.setWidth 32) after.causes
  parkTimeout := congrArg (BitVec.setWidth 32) after.parkTimeout
  programmingError := congrArg ProgError.word after.progError
  region0 := by
    change (s.regions[(0 : RegionId)]).word = _
    rw [after.regions]
    rfl
  regions i other := by
    change (s.regions[i]).word = _
    rw [after.regions]
    revert other i
    decide
  portControl m := by
    obtain ⟨taken, port⟩ := after.ports m
    exact (congrArg Port.controlWord port).trans (controlWord_reset taken)
  staging w := by
    cases w with
    | zero => exact congrArg Staging.word0 after.staging
    | one => exact congrArg Staging.word1 after.staging
  queueStatus := by
    change packWord [(s.invQueue.length, 0), (bit s.fenceWaiting, 4), (s.fenceCounter, 16)] = _
    rw [after.invQueue, after.fenceWaiting, after.fenceCounter]
    rfl
  faultRecord := s.readWord_faultRecord_of_log_nil after.log
  logStatus := by
    change packWord [(s.log.length, 0), (bit s.overflow, 8)] = _
    rw [after.log, after.overflow]
    rfl
  descriptors n w other := by
    cases w <;> simp only [State.readWord, after.aperture_of_ne other] <;> rfl
  statuses n other := congrArg Aperture.statusWord (after.aperture_of_ne other)
  base0 := by
    simp only [State.readWord, after.aperture_zero]
    cases pass <;> rfl
  tableAddress0 := by
    simp only [State.readWord, after.aperture_zero]
    cases pass <;> rfl
  attributes0 := by
    simp only [State.readWord, after.aperture_zero]
    cases pass <;> rfl
  status0 := by
    simp only [State.readWord, after.aperture_zero]
    cases pass <;> rfl

/-! ## The soft reset (R173) -/

theorem foldl_indicate (l : List Master) (s : State) : l.foldl (fun t m => indicate m t) s =
    { s with trace := (l.map Output.indication).reverse ++ s.trace } := by
  induction l generalizing s with
  | nil => rfl
  | cons m l ih =>
    rw [List.foldl_cons, ih, List.map_cons, List.reverse_cons, List.append_assoc]
    rfl

/-- The six indications go out in the order of the masters (log 11). -/
theorem indicateAll_eq (s : State) : indicateAll s = { s with trace := (allMasters.map Output.indication).reverse ++ s.trace } :=
  foldl_indicate allMasters s

theorem softReset_aperture (s : State) (n : ApertureId) : (softReset s).aperture n =
    if s.passLatched = true ∧ n = 0 then Aperture.strapOpened else Aperture.reset :=
  aperturesAfterReset_get s.passLatched n

theorem softReset_port (s : State) (m : Master) : (softReset s).port m = { Port.reset with taken := (s.port m).taken } :=
  getElem_mapSix Port.afterReset s.ports m

theorem softReset_after (s : State) : AfterReset s.passLatched (softReset s) where
  passLatched := rfl
  globalEnable := rfl
  causes := rfl
  parkTimeout := rfl
  progError := rfl
  regions := rfl
  ports m := ⟨_, softReset_port s m⟩
  staging := rfl
  invQueue := rfl
  fenceWaiting := rfl
  fenceCounter := rfl
  log := rfl
  overflow := rfl
  apertures := softReset_aperture s

theorem softReset_context (s : State) (c : ContextId) : (softReset s).context c = none := by
  change (Vector.replicate 2 none)[c] = none
  fin_cases c <;> rfl

/-- The records in flight are all marked for discard (R136). -/
theorem softReset_inFlight (s : State) : (softReset s).inFlight = List.replicate s.inFlight.length .discarded :=
  List.map_const' ..

theorem softReset_globalStatus (s : State) : (softReset s).readWord .globalStatus =
    BitVec.ofNat 32 (s.inFlight.length * 2 ^ 12 + s.inFlight.length * 2 ^ 16) := by
  have discards : (softReset s).discardCount = s.inFlight.length := by
    rw [State.discardCount, softReset_inFlight, List.countP_replicate, if_pos (by simp)]
  have flights : (softReset s).inFlight.length = s.inFlight.length := by rw [softReset_inFlight, List.length_replicate]
  have walks : (softReset s).walksInFlight = 0 := by
    rw [State.walksInFlight_eq, softReset_context, softReset_context]
    rfl
  refine (packWord_five _ _ _ _ _ _ _ _ _).trans (congrArg (BitVec.ofNat 32) ?_)
  rw [discards, flights, walks]
  change 0 * 2 ^ 24 + s.inFlight.length * 2 ^ 16 + s.inFlight.length * 2 ^ 12 + 0 * 2 ^ 8 + 0 = _
  omega

theorem replicate_get {α : Type} (x : α) (m : Fin 6) : (Vector.replicate 6 x)[m] = x := by
  fin_cases m <;> rfl

theorem softReset_queue (s : State) (m : Master) : (softReset s).queue m = ⟨[], []⟩ := replicate_get _ m

theorem replicate_tag (g : Tag) : (Vector.replicate 4 (none : Option AccessKind))[g] = none := by
  fin_cases g <;> rfl

theorem strapOpened_eq_if (pass : Bool) (n : ApertureId) :
    (if pass = true ∧ n = 0 then Aperture.strapOpened else Aperture.reset) =
      if n = 0 ∧ pass = true then { Aperture.reset with
        sizeCode := 8, mode := .linear, masterMask := 63, state := .opened, lastResult := .opened } else Aperture.reset := by
  by_cases h : pass = true ∧ n = 0
  · rw [if_pos h, if_pos h.symm]; rfl
  · rw [if_neg h, if_neg fun h' => h h'.symm]

/-- Settles O58: the fields of `softReset`, and the words that they read (`AfterReset.words`). -/
theorem softResetReturnsThePartToReset : Obligations.SoftResetReturnsThePartToReset := by
  intro s high
  refine ⟨softReset s, whenReleased_of_high high _, (softReset_after s).words, softReset_globalStatus s, rfl, rfl, rfl, high,
    ?_, ?_, rfl, softReset_context s, rfl, rfl, rfl, fun m => ⟨?_, ?_, ?_, fun g => ?_⟩,
    fun n => (softReset_aperture s n).trans (strapOpened_eq_if s.passLatched n), softReset_port s, ?_⟩
  · rw [softReset_inFlight, List.length_replicate]
  · rw [softReset_inFlight]
    exact fun x hx => List.eq_of_mem_replicate hx
  · rw [softReset_queue]
  · rw [softReset_queue]
  · rw [softReset_port]; rfl
  · rw [softReset_port]; exact replicate_tag g
  · have pin : (softReset s).resetLow = false := (softReset_resetLow s).trans high
    have same : softReset s = { softReset s with resetLow := false } := by rw [← pin]
    rw [same]
    unfold softReset
    rw [indicateAll_eq]
    rfl

end Sys2Proof.Machine

/-! PROOFS. The release of RESET#: the arrivals that waited are judged as those that come after it (R26, R47). -/

namespace Sys2Proof.Machine

/-! ## Pending arrivals -/

theorem Move.keeps_pendingArrival {o s t : State} (move : Move o s t) (m : Master) :
    (t.port m).pendingArrival = (s.port m).pendingArrival := by
  have admitted (m' : Master) (r : Request) (n : ApertureId) :
      ((admitRequest m' r n s).port m).pendingArrival = (s.port m).pendingArrival := by
    rw [admitRequest_port]
    split
    · rename_i own; rw [own]; rfl
    · rfl
  cases move with
  | pass k p =>
    unfold passWaiter
    dsimp only
    split <;> simp
  | leave k x => simp [leaveSlot_port]
  | draw | tick => rfl
  | takeFault | takeRead | takeWrite | takePark => simpa [-admitRequest_port] using admitted _ _ _
  | _ => simp

theorem judgeArrival_pendingArrival (m : Master) (r : Request) (s : State) (j : Master) :
    ((judgeArrival m r s).port j).pendingArrival = (s.port j).pendingArrival := by
  obtain ⟨a, reach⟩ := judgeArrival_reach m r s
  exact Moves.keep (P := fun u => (u.port j).pendingArrival = (s.port j).pendingArrival) reach rfl
    fun _ _ move same => (move.keeps_pendingArrival j).trans same

/-- No arrival waits. -/
def State.channelsFree (s : State) : Prop := ∀ m, (s.port m).pendingArrival = none

theorem judgeWaiting_of_none {s : State} {m : Master} (none : (s.port m).pendingArrival = none) : judgeWaiting s m = s := by
  rw [judgeWaiting, none]

theorem foldl_judgeWaiting_of_free {s : State} (free : s.channelsFree) (l : List Master) : l.foldl judgeWaiting s = s := by
  induction l with
  | nil => rfl
  | cons m l ih => rw [List.foldl_cons, judgeWaiting_of_none (free m), ih]

/-- A port's waiting arrival is taken off its channel. -/
def takePending (m : Master) (s : State) : State := s.setPort m { s.port m with pendingArrival := none }

theorem takePending_pendingArrival (m j : Master) (s : State) :
    ((takePending m s).port j).pendingArrival = if j = m then none else (s.port j).pendingArrival := by
  rw [takePending, State.port_setPort]
  split <;> rfl

theorem judgeWaiting_of_some {s : State} {m : Master} {r : Request} (waits : (s.port m).pendingArrival = some r) :
    judgeWaiting s m = judgeArrival m r (takePending m s) := by
  rw [judgeWaiting, waits]
  rfl

/-- The only arrival that waits is judged once, however often its master is named. -/
theorem foldl_judgeWaiting_of_one {s : State} {m : Master} {r : Request} (waits : (s.port m).pendingArrival = some r)
    (others : ∀ o, o ≠ m → (s.port o).pendingArrival = none) {l : List Master} (mem : m ∈ l) :
    l.foldl judgeWaiting s = judgeArrival m r (takePending m s) := by
  induction l with
  | nil => cases mem
  | cons o l ih =>
    rw [List.foldl_cons]
    by_cases own : o = m
    · subst own
      rw [judgeWaiting_of_some waits]
      refine foldl_judgeWaiting_of_free (fun j => ?_) l
      rw [judgeArrival_pendingArrival, takePending_pendingArrival]
      split
      · rfl
      · exact others j (by assumption)
    · rw [judgeWaiting_of_none (others o own)]
      exact ih ((List.mem_cons.1 mem).resolve_left (Ne.symm own))

/-! ## The release -/

theorem release_port (pass : Bool) (s : State) (m : Master) : (release pass s).port m = (s.port m).held :=
  getElem_mapSix Port.held s.ports m

theorem release_takePending (pass : Bool) (s : State) (m : Master) :
    release pass (takePending m s) = takePending m (release pass s) := by
  have ports : mapSix Port.held (takePending m s).ports = (takePending m (release pass s)).ports :=
    mapSix_held_set s.ports m none
  have rewritten : release pass (takePending m s) = { release pass s with ports := mapSix Port.held (takePending m s).ports } := by
    simp only [release, indicateAll_eq]
    rfl
  rw [rewritten, ports]
  rfl

theorem release_aperture (pass : Bool) (s : State) (n : ApertureId) : (release pass s).aperture n =
    if pass = true ∧ n = 0 then Aperture.strapOpened else Aperture.reset :=
  aperturesAfterReset_get pass n

theorem exec_resetRelease {s : State} (low : s.resetLow = true) (pass : Bool) (order : List Master) :
    exec (.resetRelease pass order) s = .next ((order ++ allMasters).foldl judgeWaiting (release pass s)) := by
  change execResetRelease pass order s = _
  rw [execResetRelease, if_pos low]

/-- The channels of a released part are those that were presented. -/
theorem release_pendingArrival (pass : Bool) (s : State) (m : Master) :
    ((release pass s).port m).pendingArrival = (s.port m).pendingArrival := by
  rw [release_port]; rfl

theorem exec_resetRelease_of_free {s : State} (low : s.resetLow = true) (free : s.channelsFree) (pass : Bool)
    (order : List Master) : exec (.resetRelease pass order) s = .next (release pass s) := by
  rw [exec_resetRelease low, foldl_judgeWaiting_of_free fun m => (release_pendingArrival pass s m).trans (free m)]

theorem release_port_of_free {s : State} (free : s.channelsFree) (pass : Bool) (m : Master) :
    (release pass s).port m = { Port.reset with taken := (s.port m).taken } := by
  have held : (s.port m).held = { Port.reset with taken := (s.port m).taken, pendingArrival := (s.port m).pendingArrival } := rfl
  rw [release_port, held, free m]
  rfl

theorem release_after {s : State} (free : s.channelsFree) (pass : Bool) : AfterReset pass (release pass s) where
  passLatched := rfl
  globalEnable := rfl
  causes := rfl
  parkTimeout := rfl
  progError := rfl
  regions := rfl
  ports m := ⟨_, release_port_of_free free pass m⟩
  staging := rfl
  invQueue := rfl
  fenceWaiting := rfl
  fenceCounter := rfl
  log := rfl
  overflow := rfl
  apertures := release_aperture pass s

/-- The released part, field by field. -/
theorem release_eq (pass : Bool) (s : State) : release pass s = { State.reset with
    passLatched := pass, globalEnable := pass, apertures := (release pass s).apertures, ports := (release pass s).ports
    readySeq := s.readySeq, trace := (allMasters.map Output.indication).reverse ++ s.trace, freeCount := s.freeCount
    pending := s.pending } := by
  unfold release
  rw [indicateAll_eq]
  rfl

theorem release_globalStatus (pass : Bool) (s : State) : (release pass s).readWord .globalStatus = 0 := by
  have walks : (release pass s).walksInFlight = 0 := by
    rw [State.walksInFlight_eq, release_eq]
    rfl
  have discards : (release pass s).discardCount = 0 := rfl
  have flights : (release pass s).inFlight = [] := rfl
  have parked : (release pass s).park = [] := rfl
  have commands : (release pass s).invQueue = [] := rfl
  change packWord [((release pass s).park.length, 0), ((release pass s).walksInFlight, 8), ((release pass s).inFlight.length, 12),
    ((release pass s).discardCount, 16), ((release pass s).invQueue.length, 24)] = 0
  rw [walks, discards, flights, parked, commands]
  decide

theorem exec_arrival {s : State} (high : s.resetLow = false) {r : Request} (formed : r.wellFormed = true) (m : Master) :
    exec (.arrival m r) s = .next (judgeArrival m r s) := by
  change execArrival m r s = _
  simp [execArrival, formed, high]

theorem wellFormed_iff (r : Request) : r.wellFormed = true ↔ 1 ≤ r.length ∧ r.length ≤ 8 := by
  simp [Request.wellFormed]

/-- Under a low strap an arrival that waited is refused: the global Enable is off (R31). -/
theorem judgeArrival_of_disabled {s : State} {m : Master} (live : (s.port m).state ≠ .resetting)
    (off : s.globalEnable = false ∨ (s.port m).state = .disabled) (r : Request) :
    judgeArrival m r s = emit (.answer m r.tag (.refuse .disabled)) s := by
  have check : s.formCheck m r = some .disabled := by
    simp [State.formCheck, live, off]
  simp only [judgeArrival, State.judge, check, reportRefusal]

end Sys2Proof.Machine

/-! PROOFS. Arrivals that waited through RESET#, judged one after another: what waits on a channel does not change how another
arrival is judged (R47, log 10). -/

namespace Sys2Proof.Machine

/-! ## Clearing the channels -/

/-- A port with its channel free. -/
def Port.free (p : Port) : Port := { p with pendingArrival := none }

/-- The part with every channel free. -/
def clearChannels (s : State) : State := { s with ports := mapSix Port.free s.ports }

theorem clearChannels_port (s : State) (m : Master) : (clearChannels s).port m = (s.port m).free := getElem_mapSix _ _ m

theorem clearChannels_of_free {s : State} (free : s.channelsFree) : clearChannels s = s := by
  have same : mapSix Port.free s.ports = s.ports := Vector.ext fun i h => by
    have own : (s.ports[i]).pendingArrival = none := free ⟨i, h⟩
    refine (getElem_mapSix Port.free s.ports ⟨i, h⟩).trans ?_
    change { s.ports[i] with pendingArrival := none } = s.ports[i]
    rw [← own]
  rw [clearChannels, same]

theorem mapSix_set {α β : Type} (f : α → β) (v : Vector α 6) (m : Master) (x : α) :
    mapSix f (v.set m x) = (mapSix f v).set m (f x) :=
  Vector.ext fun i h => by
    rw [Vector.getElem_set]
    refine (getElem_mapSix f (v.set m x) ⟨i, h⟩).trans ?_
    rw [Fin.getElem_fin, Vector.getElem_set]
    split
    · rfl
    · exact (getElem_mapSix f v ⟨i, h⟩).symm

/-- A port is changed, and its channel left as it is. -/
theorem clearChannels_setPort (m : Master) (p : Port) (s : State) :
    clearChannels (s.setPort m p) = (clearChannels s).setPort m p.free := by
  simp only [clearChannels, State.setPort, mapSix_set]

theorem clearChannels_takePending (m : Master) (s : State) : clearChannels (takePending m s) = clearChannels s := by
  have own : (s.port m).free = (clearChannels s).ports[m] := (clearChannels_port s m).symm
  have freed : ({ s.port m with pendingArrival := none } : Port).free = (s.port m).free := rfl
  rw [takePending, clearChannels_setPort, freed, own, State.setPort]
  congr 1
  exact Vector.set_getElem_self m.isLt

/-! ## Operations that do not look at the channels -/

/-- An operation that gives the same whatever waits on the channels. -/
def ChannelBlind (f : State → State) : Prop := ∀ s, f (clearChannels s) = clearChannels (f s)

theorem ChannelBlind.comp {f g : State → State} (hf : ChannelBlind f) (hg : ChannelBlind g) : ChannelBlind fun s => f (g s) :=
  fun s => (congrArg f (hg s)).trans (hf (g s))

theorem emit_blind (x : Output) : ChannelBlind (emit x) := fun _ => rfl

theorem report_blind (r : FaultRecord) : ChannelBlind (report r) := fun s => by
  have log : (clearChannels s).log = s.log := rfl
  simp only [report, log]
  cases coalesce r s.log with
  | some log => rfl
  | none => dsimp only; split <;> rfl

theorem reportCheck_blind (k : TransFault) (m : Master) (t : Tag) (n : ApertureId) (kind : AccessKind) (addr : Word)
    (frame : Nat) : ChannelBlind (reportCheck k m t n kind addr frame) := fun s => by
  by_cases denied : k = .accessDenied
  · simp only [reportCheck, denied, if_true]
    exact report_blind _ s
  · simp only [reportCheck, denied, if_false]
    by_cases small : frame < Config.frames
    · simp only [recordFrame, small, if_true]
      exact report_blind _ s
    · simp only [recordFrame, small, if_false]
      exact report_blind _ { s with freeCount := s.freeCount + 1 }

theorem pushCompletion_blind (m : Master) (c : Completion) : ChannelBlind (pushCompletion m c) := fun s => by
  by_cases resetting : (s.port m).state = .resetting
  · rw [pushCompletion_of_resetting resetting, pushCompletion_of_resetting (by rw [clearChannels_port]; exact resetting)]
  · rw [pushCompletion_of_live resetting, pushCompletion_of_live (by rw [clearChannels_port]; exact resetting),
      clearChannels_setPort, clearChannels_port]
    rfl

theorem haltOnFault_blind (n : ApertureId) : ChannelBlind (haltOnFault n) := fun s => by
  have aperture : (clearChannels s).aperture n = s.aperture n := rfl
  simp only [haltOnFault, aperture]
  split <;> rfl

theorem retire_blind (n : ApertureId) : ChannelBlind (retire n) := by
  have drain : ChannelBlind (drainTest n) := fun s => by
    have aperture : (clearChannels s).aperture n = s.aperture n := rfl
    have drained : (clearChannels s).drained n = s.drained n := rfl
    simp only [drainTest, aperture, drained]
    split <;> rfl
  exact drain.comp fun _ => rfl

theorem admitRequest_blind (m : Master) (r : Request) (n : ApertureId) : ChannelBlind (admitRequest m r n) := fun s => by
  simp only [admitRequest, clearChannels_port]
  change (State.setPort _ m _).setAperture n _ = (clearChannels (s.setPort m _)).setAperture n _
  rw [clearChannels_setPort]
  rfl

theorem postOkay_blind (m : Master) (t : Tag) (posting : Bool) : ChannelBlind (postOkay m t posting) := by
  cases posting
  · exact fun _ => rfl
  · exact pushCompletion_blind m _

theorem takeTranslated_blind (m : Master) (r : Request) (n : ApertureId) (arrival : Nat) (rights : MapAccess) (phys : Nat) :
    ChannelBlind (takeTranslated m r n arrival rights phys) := fun s => by
  have check : (clearChannels s).check r.kind rights (phys / 4096) = s.check r.kind rights (phys / 4096) := rfl
  simp only [takeTranslated, check]
  cases s.check r.kind rights (phys / 4096) with
  | some k =>
    exact (retire_blind n).comp ((haltOnFault_blind n).comp ((reportCheck_blind k m r.tag n r.kind r.address _).comp
      (pushCompletion_blind m _))) s
  | none =>
    cases r.body with
    | read beats => rfl
    | write beats => exact (postOkay_blind m r.tag _).comp (g := appendWrite m _) (fun _ => rfl) s

theorem reportRefusal_blind (reason : RefuseReason) (m : Master) (r : Request) : ChannelBlind (reportRefusal reason m r) :=
  fun s => by
    cases reason with
    | disabled | portResetting | apertureClosing | apertureHalted => rfl
    | _ => exact report_blind _ s

theorem formCheck_clearChannels (s : State) (m : Master) (r : Request) : (clearChannels s).formCheck m r = s.formCheck m r := by
  rw [State.formCheck, clearChannels_port]
  rfl

theorem judge_clearChannels (s : State) (m : Master) (r : Request) : (clearChannels s).judge m r = s.judge m r := by
  rw [State.judge, formCheck_clearChannels]
  rfl

/-- A request to a Linear aperture is placed whatever waits on the channels. -/
theorem takeRequest_clearChannels {s : State} {n : ApertureId} (linear : (s.aperture n).mode = .linear) (m : Master) (r : Request) :
    takeRequest m r n (clearChannels s) = clearChannels (takeRequest m r n s) := by
  have mode : ((clearChannels s).aperture n).mode = .linear := linear
  have order : ((clearChannels s).port m).taken = (s.port m).taken := by rw [clearChannels_port]; rfl
  simp only [takeRequest, linear, mode, order]
  exact (takeTranslated_blind m r n _ _ _).comp (admitRequest_blind m r n) s

/-- Every aperture that is not Closed is Linear. -/
def State.linearOnly (s : State) : Prop := ∀ n, (s.aperture n).state ≠ .closed → (s.aperture n).mode = .linear

theorem judgeArrival_clearChannels {s : State} (linear : s.linearOnly) (m : Master) (r : Request) :
    judgeArrival m r (clearChannels s) = clearChannels (judgeArrival m r s) := by
  simp only [judgeArrival, judge_clearChannels]
  cases judged : s.judge m r with
  | mk answer target =>
    cases answer with
    | taken =>
      cases target with
      | none => rfl
      | some n =>
        exact takeRequest_clearChannels (s := emit (.answer m r.tag .taken) s)
          (linear n (State.decode_state (State.judge_taken judged).2.1)) m r
    | retry => rfl
    | refuse reason => exact reportRefusal_blind reason m r (emit _ s)

theorem judgeArrival_linearOnly {s : State} (linear : s.linearOnly) (m : Master) (r : Request) :
    (judgeArrival m r s).linearOnly := by
  obtain ⟨a, reach⟩ := judgeArrival_reach m r s
  have kept : RangesKept s (judgeArrival m r s) :=
    Moves.keep (P := RangesKept s) reach (.of_same fun _ => rfl) fun _ _ move kept => kept.trans move.ranges
  intro n live
  obtain ⟨live, config⟩ := kept n live
  have mode : (judgeArrival m r s |>.aperture n).config.mode = (s.aperture n).config.mode := by rw [config]
  exact mode.trans (linear n live)

theorem judgeArrival_resetLow (m : Master) (r : Request) (s : State) : (judgeArrival m r s).resetLow = s.resetLow := by
  obtain ⟨a, reach⟩ := judgeArrival_reach m r s
  exact Moves.keep (P := fun u => u.resetLow = s.resetLow) reach rfl fun _ _ move same => move.untouched.resetLow.trans same

/-! ## Arrivals in a row -/

/-- The arrivals that wait, judged in an order that names each of their masters once, are those arrivals one after another in
the part with its channels free. -/
theorem foldl_judgeWaiting_eq {s : State} (high : s.resetLow = false) (linear : s.linearOnly) (waited : List (Master × Request))
    (once : (waited.map (·.1)).Nodup)
    (waits : ∀ x ∈ waited, (s.port x.1).pendingArrival = some x.2 ∧ 1 ≤ x.2.length ∧ x.2.length ≤ 8)
    (others : ∀ m, m ∉ waited.map (·.1) → (s.port m).pendingArrival = none) :
    State.channelsFree ((waited.map (·.1)).foldl judgeWaiting s) ∧
    (.next ((waited.map (·.1)).foldl judgeWaiting s) : Result) = waited.foldl (fun v x => match v with
      | .next t => exec (.arrival x.1 x.2) t
      | .fault f => .fault f
      | .refused why => .refused why) (.next (clearChannels s)) := by
  induction waited generalizing s with
  | nil =>
    have free : s.channelsFree := fun m => others m (by simp)
    exact ⟨free, by rw [clearChannels_of_free free]; rfl⟩
  | cons x rest ih =>
    obtain ⟨m, r⟩ := x
    obtain ⟨fresh, once⟩ := List.nodup_cons.1 once
    obtain ⟨waiting, formed⟩ := waits (m, r) (by simp)
    have pending (j : Master) : ((judgeArrival m r (takePending m s)).port j).pendingArrival =
        if j = m then none else (s.port j).pendingArrival := by
      rw [judgeArrival_pendingArrival, takePending_pendingArrival]
    have judged : exec (.arrival m r) (clearChannels s) = .next (clearChannels (judgeArrival m r (takePending m s))) := by
      rw [exec_arrival (s := clearChannels s) high ((wellFormed_iff r).2 formed), ← clearChannels_takePending m,
        judgeArrival_clearChannels (s := takePending m s) linear]
    rw [List.map_cons, List.foldl_cons, List.foldl_cons, judgeWaiting_of_some waiting]
    change _ ∧ _ = List.foldl _ (exec (.arrival m r) (clearChannels s)) rest
    rw [judged]
    refine ih ((judgeArrival_resetLow m r _).trans high) (judgeArrival_linearOnly (s := takePending m s) linear m r) once
      (fun y hy => ?_) fun j unnamed => ?_
    · have other : y.1 ≠ m := fun same => fresh (same ▸ List.mem_map_of_mem (f := (·.1)) hy)
      rw [pending, if_neg other]
      exact waits y (List.mem_cons_of_mem _ hy)
    · rw [pending]
      split
      · rfl
      · rename_i other
        exact others j (by simpa [other] using unnamed)

theorem mem_allMasters (m : Master) : m ∈ allMasters := by
  fin_cases m <;> decide

theorem release_linearOnly (pass : Bool) (s : State) : (release pass s).linearOnly := by
  intro n live
  rw [release_aperture] at live ⊢
  split at live
  · rename_i strap; rw [if_pos strap]; rfl
  · exact absurd rfl live

theorem mapSix_held_free (v : Vector Port 6) : mapSix Port.held (mapSix Port.free v) = mapSix Port.free (mapSix Port.held v) :=
  rfl

theorem release_clearChannels (pass : Bool) (s : State) : release pass (clearChannels s) = clearChannels (release pass s) := by
  simp only [release, indicateAll_eq]
  rfl

/-- Settles O60: the release with its channels free, with one arrival that waited, and with several. -/
theorem releaseLatchesTheStrap : Obligations.ReleaseLatchesTheStrap := by
  intro s pass order low
  refine ⟨fun free => ?_, fun m r waits others => ⟨fun long short => ?_, fun strap => ?_⟩, fun waited named once waits others => ?_⟩
  · exact ⟨_, exec_resetRelease_of_free low free pass order, (release_after free pass).words, release_globalStatus pass s, rfl, rfl,
      fun n => (release_aperture pass s n).trans (strapOpened_eq_if pass n), release_port_of_free free pass, release_eq pass s⟩
  · have free : (takePending m s).channelsFree := fun j => by
      rw [takePending_pendingArrival]
      split
      · rfl
      · exact others j (by assumption)
    refine ⟨release pass (takePending m s), exec_resetRelease_of_free (s := takePending m s) low free pass order, ?_⟩
    rw [exec_resetRelease low, foldl_judgeWaiting_of_one ((release_pendingArrival pass s m).trans waits)
      (fun o other => (release_pendingArrival pass s o).trans (others o other)) (List.mem_append_right _ (mem_allMasters m)),
      exec_arrival (release_resetLow pass _) ((wellFormed_iff r).2 ⟨long, short⟩), release_takePending]
  · subst strap
    refine ⟨_, exec_resetRelease low false order, ?_⟩
    rw [foldl_judgeWaiting_of_one ((release_pendingArrival false s m).trans waits)
      (fun o other => (release_pendingArrival false s o).trans (others o other)) (List.mem_append_right _ (mem_allMasters m)),
      judgeArrival_of_disabled ?_ (.inl rfl)]
    · change _ :: (release false s).trace = _
      rw [release_eq]
    · rw [← release_takePending, release_port]
      nofun
  · obtain ⟨free, same⟩ := foldl_judgeWaiting_eq (s := release pass s) (release_resetLow pass s) (release_linearOnly pass s) waited
      (named ▸ once) (fun x hx => by rw [release_pendingArrival]; exact waits x hx)
      fun m unnamed => (release_pendingArrival pass s m).trans (others m (named ▸ unnamed))
    refine ⟨release pass (clearChannels s), exec_resetRelease_of_free (s := clearChannels s) low ?_ pass order, ?_⟩
    · exact fun m => by rw [clearChannels_port]; rfl
    · rw [exec_resetRelease low, List.foldl_append, named, foldl_judgeWaiting_of_free free, release_clearChannels]
      exact same

end Sys2Proof.Machine

/-! PROOFS. The answers to an arrival, check by check (sections 1.3 and 2.3). -/

namespace Sys2Proof.Machine

/-! ## An arrival by the outcome of its checks -/

theorem judgeArrival_of_form {s : State} {m : Master} {r : Request} {why : RefuseReason} (fails : s.formCheck m r = some why) :
    judgeArrival m r s = reportRefusal why m r (emit (.answer m r.tag (.refuse why)) s) := by
  simp only [judgeArrival, State.judge, fails]

theorem judgeArrival_of_decode_none {s : State} {m : Master} {r : Request} (passes : s.formCheck m r = none)
    (found : s.decode r.address = none) :
    judgeArrival m r s = reportRefusal .noAperture m r (emit (.answer m r.tag (.refuse .noAperture)) s) := by
  simp only [judgeArrival, State.judge, passes, found]

theorem judgeArrival_of_admission {s : State} {m : Master} {r : Request} {n : ApertureId} {why : RefuseReason}
    (passes : s.formCheck m r = none) (found : s.decode r.address = some n) (fails : (s.aperture n).admission m = some why) :
    judgeArrival m r s = reportRefusal why m r (emit (.answer m r.tag (.refuse why)) s) := by
  simp only [judgeArrival, State.judge, passes, found, fails]

theorem judgeArrival_of_lack {s : State} {m : Master} {r : Request} {n : ApertureId} (passes : s.formCheck m r = none)
    (found : s.decode r.address = some n) (admitted : (s.aperture n).admission m = none) (lack : s.lacksResource m r n = true) :
    judgeArrival m r s = emit (.answer m r.tag .retry) s := by
  simp only [judgeArrival, State.judge, passes, found, admitted, lack, if_true]

theorem judgeArrival_of_room {s : State} {m : Master} {r : Request} {n : ApertureId} (passes : s.formCheck m r = none)
    (found : s.decode r.address = some n) (admitted : (s.aperture n).admission m = none) (room : s.lacksResource m r n = false) :
    judgeArrival m r s = takeRequest m r n (emit (.answer m r.tag .taken) s) := by
  simp only [judgeArrival, State.judge, passes, found, admitted, room, Bool.false_eq_true, if_false]

/-! ## Steps 1 to 4 (R31, R32) -/

/-- Settles O26: the five tests of `formCheck`. -/
theorem malformedArrivalsAreRefusedInOrder : Obligations.MalformedArrivalsAreRefusedInOrder := by
  intro m r s high long short refused logged a
  have judged : exec (.arrival m r) s = .next (judgeArrival m r s) := exec_arrival high ((wellFormed_iff r).2 ⟨long, short⟩) m
  rw [judged]
  have live (active : (s.port m).state = .active) : (s.port m).state ≠ .resetting ∧ (s.port m).state ≠ .disabled := by
    rw [active]; exact ⟨nofun, nofun⟩
  refine ⟨fun resetting => ?_, fun other off => ?_, fun active on used => ?_, fun active on free odd => ?_,
    fun active on free even cross => ?_⟩
  · rw [judgeArrival_of_form (why := .portResetting) (by simp [State.formCheck, resetting])]
    rfl
  · rw [judgeArrival_of_disabled other off]
    rfl
  · rw [judgeArrival_of_form (why := .tagInUse) (by simp [State.formCheck, active, on, used])]
    rfl
  · rw [judgeArrival_of_form (why := .misaligned) (by simpa [State.formCheck, active, on, free] using fun h => absurd h odd)]
    rfl
  · rw [judgeArrival_of_form (why := .lineCross) (by
      have cross' : 64 < r.address.toNat % 64 + 8 * r.length := cross
      simp [State.formCheck, active, on, free, show r.address.toNat % 8 = 0 from even, cross'])]
    rfl

/-! ## The decode (R7) -/

/-- Aperture `n` is not Closed and holds the master address. -/
def State.holds (s : State) (x : Word) (n : ApertureId) : Prop :=
  (s.aperture n).state ≠ .closed ∧ (s.aperture n).covers x = true

theorem State.decode_eq_none (s : State) (x : Word) : s.decode x = none ↔ ∀ n, ¬ s.holds x n := by
  simp [State.decode, State.holds, mem_allApertures]

theorem State.holds_of_decode {s : State} {x : Word} {n : ApertureId} (found : s.decode x = some n) : s.holds x n := by
  have := List.find?_some found
  simpa [State.holds] using this

/-- Two apertures that hold one address overlap. -/
theorem State.overlaps_of_holds {s : State} {x : Word} {n o : ApertureId} (h : s.holds x n) (h' : s.holds x o) :
    (s.aperture n).overlaps (s.aperture o) = true := by
  obtain ⟨-, covers⟩ := h
  obtain ⟨-, covers'⟩ := h'
  simp only [Aperture.covers, Bool.and_eq_true, decide_eq_true_eq] at covers covers'
  exact (Aperture.overlaps_iff _ _).2 ⟨x.toNat, covers.1, covers.2, covers'.1, covers'.2⟩

/-- Under the law of the apertures the decode gives the one aperture that holds the address. -/
theorem ApertureLaw.decode_iff {s : State} (law : ApertureLaw s) (x : Word) (n : ApertureId) :
    s.decode x = some n ↔ s.holds x n := by
  refine ⟨State.holds_of_decode, fun holds => ?_⟩
  cases found : s.decode x with
  | none => exact absurd holds ((s.decode_eq_none x).1 found n)
  | some o =>
    have holds' := State.holds_of_decode found
    by_contra other
    have apart := law.apart n o (fun same => other (congrArg some same.symm)) holds.1 holds'.1
    rw [State.overlaps_of_holds holds holds'] at apart
    cases apart

theorem State.holds_iff (s : State) (x : Word) (n : ApertureId) : s.holds x n ↔ (s.aperture n).state ≠ .closed ∧
    (s.aperture n).base.toNat ≤ x.toNat ∧
      x.toNat ≤ (s.aperture n).base.toNat + 2 ^ (s.aperture n).sizeCode.toNat * 2 ^ 20 - 1 := by
  have pos := (s.aperture n).size_pos
  have size : (s.aperture n).size = 2 ^ (s.aperture n).sizeCode.toNat * 2 ^ 20 := rfl
  rw [← size]
  simp only [State.holds, Aperture.covers, Bool.and_eq_true, decide_eq_true_eq]
  exact and_congr_right fun _ => and_congr_right fun _ => by omega

/-! ## Steps 5 to 9 (R33, R34) -/

theorem State.formCheck_of_accepts {s : State} {m : Master} {r : Request} (accepts : s.accepts m r) : s.formCheck m r = none := by
  obtain ⟨-, active, on, free, even, -, fits⟩ := accepts
  exact State.formCheck_eq_none.2 ⟨active, on, free, even, fits⟩

theorem exec_arrival_of_accepts {s : State} {m : Master} {r : Request} (accepts : s.accepts m r) :
    exec (.arrival m r) s = .next (judgeArrival m r s) := by
  obtain ⟨high, -, -, -, -, long, fits⟩ := accepts
  exact exec_arrival high ((wellFormed_iff r).2 ⟨long, by omega⟩) m

theorem Aperture.admission_of_opened {a : Aperture} {m : Master} (permitted : a.masterMask.getLsbD m.val = true)
    (opened : a.state = .opened) : a.admission m = none :=
  Aperture.admission_eq_none.2 ⟨permitted, by simp [opened], by simp [opened]⟩

theorem Aperture.admission_of_masked {a : Aperture} {m : Master} (masked : a.masterMask.getLsbD m.val = false) :
    a.admission m = some .notPermitted := by
  rw [Aperture.admission, masked]
  rfl

theorem Aperture.admission_of_permitted {a : Aperture} {m : Master} (permitted : a.masterMask.getLsbD m.val = true) :
    (a.state = .draining → a.admission m = some .apertureClosing) ∧ (a.state = .halted → a.admission m = some .apertureHalted) := by
  refine ⟨fun draining => ?_, fun halted => ?_⟩
  · rw [Aperture.admission, permitted, draining]; rfl
  · rw [Aperture.admission, permitted, halted]; rfl

theorem State.pageLookup_eq_none {s : State} {n : ApertureId} {page : Nat} :
    s.pageLookup n page = none ↔ ∀ e ∈ s.pageCache, ¬ (e.aperture = n ∧ e.page = page) := by
  simp only [State.pageLookup, List.find?_eq_none, PageEntry.hasKey_iff]

theorem mem_allSlots (k : SlotId) : k ∈ allSlots := by
  fin_cases k <;> decide

theorem State.freeSlotNumber_eq_none {s : State} : s.freeSlotNumber = none ↔ ∀ k : SlotId, ∃ x ∈ s.park, x.num = k := by
  simp [State.freeSlotNumber, mem_allSlots]

/-- Settles O27: the decode as a search for an aperture that holds the address, and the checks after it in their order. -/
theorem apertureAndResourceChecksFollowInOrder : Obligations.ApertureAndResourceChecksFollowInOrder := by
  refine ⟨?_, ?_⟩
  · intro s x matched
    have holds (n : ApertureId) : s.holds x n ↔ matched n := s.holds_iff x n
    exact ⟨fun law n => (law.decode_iff x n).trans (holds n),
      (s.decode_eq_none x).trans (forall_congr' fun n => not_congr (holds n))⟩
  · intro m r s accepts answered
    have passes := State.formCheck_of_accepts accepts
    rw [exec_arrival_of_accepts accepts]
    refine ⟨fun found => ?_, ?_⟩
    · rw [judgeArrival_of_decode_none passes found]
      rfl
    · intro n found a
      refine ⟨fun masked => ?_, fun permitted draining => ?_, fun permitted halted => ?_, fun permitted opened write full => ?_,
        fun permitted opened room walked missed busy => ?_⟩
      · rw [judgeArrival_of_admission passes found (Aperture.admission_of_masked masked)]
        have decoded : (emit (.answer m r.tag (.refuse .notPermitted)) s).decode r.address = some n := found
        simp only [reportRefusal, decoded]
        rfl
      · rw [judgeArrival_of_admission passes found ((Aperture.admission_of_permitted permitted).1 draining)]
        rfl
      · rw [judgeArrival_of_admission passes found ((Aperture.admission_of_permitted permitted).2 halted)]
        rfl
      · have lack : s.lacksResource m r n = true := by simp [State.lacksResource, write, Config.writeQueueEntries, full]
        rw [judgeArrival_of_lack passes found (Aperture.admission_of_opened permitted opened) lack]
        rfl
      · have lack : s.lacksResource m r n = true := by
          have lookup : s.pageLookup n ((s.aperture n).pageIndex r.address) = none := State.pageLookup_eq_none.2 missed
          have slots : s.freeSlotNumber = none := State.freeSlotNumber_eq_none.2 busy
          have mode : (s.aperture n).mode = .walked := walked
          simp [State.lacksResource, lookup, slots, mode]
        rw [judgeArrival_of_lack passes found (Aperture.admission_of_opened permitted opened) lack]
        rfl

end Sys2Proof.Machine

/-! PROOFS. Acceptances, port enables, and the arrivals that are Taken with their translation at hand (sections 2.4 to 2.6,
6.2). -/

namespace Sys2Proof.Machine

/-! ## Acceptance and the port enable (R36, R39, R40, R44) -/

/-- Settles O33: the oldest completion goes out, and its tag is Free. -/
theorem acceptanceDeliversTheOldestCompletion : Obligations.AcceptanceDeliversTheOldestCompletion := by
  intro m s high
  refine ⟨fun empty => ?_, fun c rest offered => ?_⟩
  · dsimp only [exec, execAcceptance]
    rw [whenReleased_of_high high]
    simp only [empty]
  · dsimp only [exec, execAcceptance]
    rw [whenReleased_of_high high]
    simp only [offered]
    refine ⟨_, rfl, ?_⟩
    have own := s.port_setPort m m { (s.port m).setTag c.tag none with completions := rest }
    rw [if_pos rfl] at own
    refine ⟨fun g => ?_, ?_, fun o other => ?_, rfl⟩
    · change Port.tag ((s.setPort m _).port m) g = _
      rw [own]
      exact Port.tag_setTag (s.port m) c.tag g none
    · exact own.trans (congrArg (fun p : Port => { s.port m with completions := rest, tags := p.tags }) own.symm)
    · change (s.setPort m _).port o = _
      rw [s.port_setPort, if_neg other]

theorem storeEnable_port (m : Master) (enable : Bool) (s : State) (o : Master) : (storeEnable m enable s).port o =
    if o = m then { s.port m with
      enable := enable
      state := if (s.port m).state = .resetting then .resetting else if enable then .active else .disabled }
    else s.port o := s.port_setPort m o _

theorem endPortReset_port (m : Master) (s : State) (o : Master) : (endPortReset m s).port o =
    if o = m then { s.port m with
      tags := Vector.replicate 4 none, state := if (s.port m).enable then .active else .disabled }
    else s.port o := s.port_setPort m o _

/-- Settles O34: the two commands as the one port that they change. -/
theorem portStatesFollowTheEnable : Obligations.PortStatesFollowTheEnable := by
  intro m s high
  refine ⟨fun enable => ⟨storeEnable m enable s, whenReleased_of_high high _, ?_, fun o other => ?_, rfl⟩,
    fun resetting none => ⟨endPortReset m s, ?_, fun g => ?_, ?_, fun o other => ?_, rfl⟩⟩
  · rw [storeEnable_port, if_pos rfl]
  · rw [storeEnable_port, if_neg other]
  · refine (whenReleased_of_high high _).trans ?_
    rw [portResetTest, if_pos (by simp [resetting, none])]
  · rw [endPortReset_port, if_pos rfl]
    exact replicate_tag g
  · rw [endPortReset_port, if_pos rfl]
  · rw [endPortReset_port, if_neg other]

/-! ## Reports of failed checks -/

/-- The record of a failed check. -/
abbrev checkRecord (k : TransFault) (m : Master) (t : Tag) (n : ApertureId) (kind : AccessKind) (addr : Word) (x : Frame) :
    FaultRecord :=
  ⟨.translation k, m, t, some n, kind, addr, if k = .accessDenied then none else some x, 1⟩

/-- A record shows the access frame where its field can hold it (log 6). -/
theorem recordFrame_of_small {frame : Nat} (small : frame < 16777216) (s : State) : (recordFrame frame s).1.toNat = frame := by
  rw [recordFrame, if_pos small, BitVec.toNat_ofNat, Nat.mod_eq_of_lt small]

/-! ## A request with its translation at hand (R35, R60) -/

/-- A read that passes its checks joins the list. -/
theorem takeTranslated_of_read {m : Master} {r : Request} {n : ApertureId} {rights : MapAccess} {phys : Nat} {v : State}
    (passes : v.check r.kind rights (phys / 4096) = none) {beats : Nat} (body : r.body = .read beats) (arrival : Nat) :
    takeTranslated m r n arrival rights phys v =
      appendRead m ⟨r.tag, arrival, r.address, BitVec.ofNat 36 phys, beats, n, false⟩ v := by
  simp only [takeTranslated, passes, body]

theorem takeTranslated_of_write {m : Master} {r : Request} {n : ApertureId} {rights : MapAccess} {phys : Nat} {v : State}
    (passes : v.check r.kind rights (phys / 4096) = none) {beats : List WriteBeat} (body : r.body = .write beats) (arrival : Nat) :
    takeTranslated m r n arrival rights phys v = postOkay m r.tag (v.aperture n).posting
      (appendWrite m ⟨r.tag, arrival, r.address, beats, n, .translated (BitVec.ofNat 36 phys), (v.aperture n).posting, false⟩ v) := by
  simp only [takeTranslated, passes, body]

/-- The Okay that a posting aperture gives at once (R118). -/
theorem postOkay_eq {m : Master} {v : State} (live : (v.port m).state ≠ .resetting) (t : Tag) (posting : Bool) :
    postOkay m t posting v = { v with ports := (postOkay m t posting v).ports } ∧
    ∀ o, (postOkay m t posting v).port o = if o = m then { v.port m with
      completions := (v.port m).completions ++ (if posting then [⟨t, .okayWrite⟩] else []) } else v.port o := by
  cases posting with
  | false =>
    refine ⟨rfl, fun o => ?_⟩
    change v.port o = _
    split
    · rename_i own; rw [own, if_neg (by simp), List.append_nil]
    · rfl
  | true =>
    have okay : postOkay m t true v = pushCompletion m ⟨t, .okayWrite⟩ v := rfl
    rw [okay, pushCompletion_of_live live]
    exact ⟨rfl, fun o => v.port_setPort m o _⟩

/-- Only a Draining aperture is tested as a request retires. -/
theorem retire_of_live {n : ApertureId} {s : State} (live : (s.aperture n).state ≠ .draining) : retire n s = lowerCount n s := by
  refine drainTest_of_not_due fun due => live ?_
  simpa [lowerCount_aperture] using due.1

theorem haltOnFault_not_draining {n : ApertureId} {s : State} (opened : (s.aperture n).state = .opened) :
    ((haltOnFault n s).aperture n).state ≠ .draining := by
  rw [haltOnFault_aperture]
  split
  · nofun
  · simp [opened]

/-- A request of an Open aperture that fails its checks: its Fault, its report, the halt, and its retirement, which leaves the
count as it was before the request was admitted. -/
theorem takeTranslated_of_fault {m : Master} {r : Request} {n : ApertureId} {rights : MapAccess} {phys : Nat} {v : State}
    {k : TransFault} (fails : v.check r.kind rights (phys / 4096) = some k) (live : (v.port m).state ≠ .resetting)
    (opened : (v.aperture n).state = .opened) (arrival : Nat) :
    ∃ (x : Frame) (c : Nat), (phys / 4096 < 16777216 → x.toNat = phys / 4096) ∧
      let u := report (checkRecord k m r.tag n r.kind r.address x) v
      takeTranslated m r n arrival rights phys v = { v with
        ports := v.ports.set m { v.port m with completions := (v.port m).completions ++ [⟨r.tag, .fault k⟩] }
        apertures := v.apertures.set n { v.aperture n with
          count := (v.aperture n).count - 1, state := if (v.aperture n).haltOnFault then .halted else .opened }
        log := u.log, overflow := u.overflow
        causes := if (v.aperture n).haltOnFault then u.causes ||| 0x010 else u.causes
        freeCount := c } := by
  refine ⟨(recordFrame (phys / 4096) v).1,
    if k = .accessDenied then v.freeCount else (recordFrame (phys / 4096) v).2.freeCount, fun small => recordFrame_of_small small v, ?_⟩
  intro u
  have faulted : takeTranslated m r n arrival rights phys v = retire n (haltOnFault n
      (reportCheck k m r.tag n r.kind r.address (phys / 4096) (pushCompletion m ⟨r.tag, .fault k⟩ v))) := by
    simp only [takeTranslated, fails]
  rw [faulted, reportCheck_pushCompletion, reportCheck_eq, report_eq]
  obtain ⟨log, overflow, causes⟩ := report_congr (checkRecord k m r.tag n r.kind r.address (recordFrame (phys / 4096) v).1)
    (s := v) (t := { v with freeCount := if k = .accessDenied then v.freeCount else (recordFrame (phys / 4096) v).2.freeCount })
    rfl rfl rfl
  rw [log, overflow, causes, pushCompletion_of_live (by exact live)]
  rw [retire_of_live (haltOnFault_not_draining (by exact opened))]
  cases halts : (v.aperture n).haltOnFault with
  | false =>
    rw [haltOnFault, if_neg (by change ¬ ((v.aperture n).haltOnFault && _) = true; simp [halts])]
    have state : (v.aperture n).state = if false = true then ApertureState.halted else .opened := opened
    rw [← state]
    rfl
  | true =>
    rw [haltOnFault, if_pos (by
      change ((v.aperture n).haltOnFault && decide ((v.aperture n).state = .opened)) = true
      simp [halts, opened])]
    simp only [lowerCount, setCause, State.setAperture, State.aperture, Fin.getElem_fin, Vector.getElem_set_self, Vector.set_set]
    rfl

end Sys2Proof.Machine

/-! PROOFS. Requests that are Taken with their translation at hand: Linear apertures and page cache hits (sections 1.3, 2.4,
3.2). -/

namespace Sys2Proof.Machine

/-! ## An arrival that is Taken -/

/-- What `admits` says of the request and its aperture. -/
theorem State.admits.judged {s : State} {m : Master} {r : Request} {n : ApertureId} (admits : s.admits m r n)
    (room : (s.aperture n).mode = .walked →
      (s.pageLookup n ((s.aperture n).pageIndex r.address)).isSome = true ∨ s.freeSlotNumber.isSome = true) :
    exec (.arrival m r) s = .next (takeRequest m r n (emit (.answer m r.tag .taken) s)) := by
  obtain ⟨accepts, found, permitted, opened, fits⟩ := admits
  have enough : s.lacksResource m r n = false := by
    rw [State.lacksResource, Bool.or_eq_false_iff]
    refine ⟨?_, ?_⟩
    · by_cases write : r.kind = .write
      · simpa [write, Config.writeQueueEntries] using fits write
      · simp [write]
    · by_cases walked : (s.aperture n).mode = .walked
      · obtain hit | free := room walked
        · simp [Option.isNone_eq_false_iff.2 hit]
        · simp [Option.isNone_eq_false_iff.2 free]
      · simp [walked]
  rw [exec_arrival_of_accepts accepts, judgeArrival_of_room (State.formCheck_of_accepts accepts) found
    (Aperture.admission_of_opened permitted opened) enough]

theorem State.taken_port (s : State) (m : Master) (r : Request) (n : ApertureId) (o : Master) : (s.taken m r n).port o =
    if o = m then { s.port m with tags := (s.port m).tags.set r.tag (some r.kind), taken := (s.port m).taken + 1 }
    else s.port o := s.port_setPort m o _

theorem State.taken_aperture (s : State) (m : Master) (r : Request) (n o : ApertureId) : (s.taken m r n).aperture o =
    if o = n then { s.aperture n with count := (s.aperture n).count + 1 } else s.aperture o := s.aperture_setAperture n o _

theorem State.taken_live {s : State} {m : Master} {r : Request} {n : ApertureId} (admits : s.admits m r n) :
    ((s.taken m r n).port m).state ≠ .resetting := by
  rw [State.taken_port, if_pos rfl]
  change (s.port m).state ≠ _
  rw [admits.1.2.1]
  nofun

theorem State.taken_opened {s : State} {m : Master} {r : Request} {n : ApertureId} (admits : s.admits m r n) :
    ((s.taken m r n).aperture n).state = .opened := by
  rw [State.taken_aperture, if_pos rfl]
  exact admits.2.2.2.1

/-- The two checks pass (R60 to R62). -/
theorem State.check_eq_none {s : State} {kind : AccessKind} {rights : MapAccess} {f : Nat} (permitted : permits rights kind = true)
    (passes : s.classify f = .normal ∨ s.classify f = .readOnly ∧ kind = .read) : s.check kind rights f = none := by
  rw [State.check_of_permitted permitted]
  obtain normal | ⟨readOnly, rfl⟩ := passes
  · exact State.regionCheck_of_normal kind normal
  · exact State.regionCheck_read_of_readOnly readOnly

/-! ## What becomes of the request -/

/-- A write past its checks, in the state `v` that its admission leaves. -/
theorem takeTranslated_write_eq {m : Master} {r : Request} {n : ApertureId} {rights : MapAccess} {phys arrival : Nat} {v : State}
    (passes : v.check r.kind rights (phys / 4096) = none) {beats : List WriteBeat} (body : r.body = .write beats)
    (live : (v.port m).state ≠ .resetting) :
    let t := takeTranslated m r n arrival rights phys v
    t = { v with
      ports := t.ports
      queues := v.queues.set m { v.queue m with writes := (v.queue m).writes ++
        [⟨r.tag, arrival, r.address, beats, n, .translated (BitVec.ofNat 36 phys), (v.aperture n).posting, false⟩] } } ∧
    ∀ o, t.port o = if o = m then { v.port m with
      completions := (v.port m).completions ++ (if (v.aperture n).posting then [⟨r.tag, .okayWrite⟩] else []) } else v.port o := by
  intro t
  have written : t = postOkay m r.tag (v.aperture n).posting (appendWrite m
      ⟨r.tag, arrival, r.address, beats, n, .translated (BitVec.ofNat 36 phys), (v.aperture n).posting, false⟩ v) :=
    takeTranslated_of_write passes body arrival
  obtain ⟨same, ports⟩ := postOkay_eq (v := appendWrite m
    ⟨r.tag, arrival, r.address, beats, n, .translated (BitVec.ofNat 36 phys), (v.aperture n).posting, false⟩ v)
    live r.tag (v.aperture n).posting
  rw [written]
  exact ⟨same, ports⟩

/-- A request that fails its checks, in the state `v` that its admission leaves of `s`: the effects of the fault beside `s`. -/
theorem takeTranslated_fault_eq {s : State} {m : Master} {r : Request} {n : ApertureId} {rights : MapAccess} {phys arrival : Nat}
    {k : TransFault} (pages : List PageEntry) (admits : s.admits m r n) (fails : s.check r.kind rights (phys / 4096) = some k) :
    let v : State := { s.taken m r n with pageCache := pages }
    let t := takeTranslated m r n arrival rights phys v
    (∀ o, t.port o = if o = m then
      { (s.taken m r n).port m with completions := (s.port m).completions ++ [⟨r.tag, .fault k⟩] } else s.port o) ∧
    (∀ o, t.aperture o = if o = n then
      { s.aperture n with state := if (s.aperture n).haltOnFault then .halted else .opened } else s.aperture o) ∧
    (∃ x : Frame, (phys / 4096 < 16777216 → x.toNat = phys / 4096) ∧
      let u := report (checkRecord k m r.tag n r.kind r.address x) s
      t.log = u.log ∧ t.overflow = u.overflow ∧
      t.causes = if (s.aperture n).haltOnFault then u.causes ||| 0x010 else u.causes) ∧
    t = { v with
      ports := t.ports, apertures := t.apertures, log := t.log, overflow := t.overflow, causes := t.causes
      freeCount := t.freeCount } := by
  intro v t
  have live : (v.port m).state ≠ .resetting := State.taken_live admits
  have opened : (v.aperture n).state = .opened := State.taken_opened admits
  have halts : (v.aperture n).haltOnFault = (s.aperture n).haltOnFault := by
    change ((s.taken m r n).aperture n).haltOnFault = _
    rw [State.taken_aperture, if_pos rfl]
  have waiting : (v.port m).completions = (s.port m).completions := by
    change ((s.taken m r n).port m).completions = _
    rw [State.taken_port, if_pos rfl]
  obtain ⟨x, c, frame, done⟩ := takeTranslated_of_fault (v := v) (arrival := arrival) fails live opened
  obtain ⟨log, overflow, causes⟩ := report_congr (checkRecord k m r.tag n r.kind r.address x) (s := s) (t := v) rfl rfl rfl
  replace done : t = _ := done
  rw [log, overflow, causes, halts, waiting] at done
  refine ⟨fun o => ?_, fun o => ?_, ⟨x, frame, ?_⟩, ?_⟩
  · rw [done]
    refine (v.port_setPort m o _).trans ?_
    split
    · rfl
    · rename_i other
      exact (State.taken_port s m r n o).trans (if_neg other)
  · rw [done]
    refine (v.aperture_setAperture n o _).trans ?_
    have own : v.aperture n = { s.aperture n with count := (s.aperture n).count + 1 } :=
      (State.taken_aperture s m r n n).trans (if_pos rfl)
    split
    · rw [own]; rfl
    · rename_i other
      exact (State.taken_aperture s m r n o).trans (if_neg other)
  · rw [done]
    exact ⟨rfl, rfl, rfl⟩
  · rw [done]

/-! ## Linear apertures (R5, R10) -/

/-- A request that is Taken for a Linear aperture has its translation. -/
theorem exec_arrival_of_linear {s : State} {m : Master} {r : Request} {n : ApertureId} (admits : s.admits m r n)
    (linear : (s.aperture n).mode = .linear) :
    exec (.arrival m r) s = .next (takeTranslated m r n (s.port m).taken (s.aperture n).linearAccess.rights
      ((s.aperture n).linearAddress r.address) (s.taken m r n)) := by
  have mode : ((emit (.answer m r.tag .taken) s).aperture n).mode = .linear := linear
  rw [admits.judged fun walked => absurd (linear.symm.trans walked) nofun]
  simp only [takeRequest, mode]
  rfl

theorem LinearAccess.permits_iff (a : LinearAccess) (kind : AccessKind) :
    permits a.rights kind = true ↔ (kind = .write → a = .readWrite) := by
  cases a <;> cases kind <;> simp [LinearAccess.rights, permits]

/-- Settles O28: the checks pass, and the request joins its queue. -/
theorem linearRequestsAreTakenAndQueued : Obligations.LinearRequestsAreTakenAndQueued := by
  intro m r n s admits linear a p writable class'
  have passes : (s.taken m r n).check r.kind a.linearAccess.rights (p / 4096) = none :=
    State.check_eq_none (s := s) ((a.linearAccess.permits_iff r.kind).2 writable) class'
  have judged := exec_arrival_of_linear admits linear
  refine ⟨fun beats body => ?_, fun beats body => ?_⟩
  · refine judged.trans (congrArg _ ?_)
    exact takeTranslated_of_read passes body _
  · obtain ⟨same, ports⟩ := takeTranslated_write_eq (n := n) (arrival := (s.port m).taken) passes body (State.taken_live admits)
    have posting : ((s.taken m r n).aperture n).posting = a.posting := by rw [State.taken_aperture, if_pos rfl]
    have waiting : ((s.taken m r n).port m).completions = (s.port m).completions := by rw [State.taken_port, if_pos rfl]
    rw [posting] at same ports
    rw [waiting] at ports
    refine ⟨_, judged, same, fun o => (ports o).trans ?_⟩
    split
    · rfl
    · rename_i other
      rw [State.taken_port, if_neg other]

/-- Settles O29: the failing check, and the effects of its fault. -/
theorem linearRequestsThatFailReceiveTheirFault : Obligations.LinearRequestsThatFailReceiveTheirFault := by
  intro m r n s admits linear a f k why
  have fails : s.check r.kind a.linearAccess.rights f = some k := by
    by_cases denied : r.kind = .write ∧ a.linearAccess = .readOnly
    · rw [if_pos denied] at why
      rw [denied.1, denied.2, why]
      exact State.check_of_not_permitted rfl
    · rw [if_neg denied] at why
      have permitted : permits a.linearAccess.rights r.kind = true := (a.linearAccess.permits_iff r.kind).2 fun write => by
        cases access : a.linearAccess with
        | readWrite => rfl
        | readOnly => exact absurd ⟨write, access⟩ denied
      rw [State.check_of_permitted permitted]
      split at why
      · rename_i out
        rw [why]
        exact State.regionCheck_of_outOfRange _ out
      · obtain ⟨readOnly, write, rfl⟩ := why
        rw [write]
        exact State.regionCheck_write_of_readOnly readOnly
  obtain ⟨ports, apertures, reported, same⟩ := takeTranslated_fault_eq (arrival := (s.port m).taken) s.pageCache admits fails
  refine ⟨_, exec_arrival_of_linear admits linear, ports, ?_, apertures, reported, same⟩
  refine (congrArg (fun p : Port => p.tag r.tag) (ports m)).trans ?_
  rw [if_pos rfl, State.taken_port, if_pos rfl]
  exact (Port.tag_setTag (s.port m) r.tag r.tag (some r.kind)).trans (if_pos rfl)

/-! ## Page cache hits (R49, R50) -/

/-- Under the law of the page cache the lookup finds the one entry of the key. -/
theorem PageCacheLaw.lookup {s : State} (law : PageCacheLaw s) {e : PageEntry} (mem : e ∈ s.pageCache) :
    s.pageLookup e.aperture e.page = some e := by
  cases found : s.pageLookup e.aperture e.page with
  | none => exact absurd ⟨rfl, rfl⟩ (State.pageLookup_eq_none.1 found e mem)
  | some x =>
    have key := (PageEntry.hasKey_iff _ _ _).1 (List.find?_some found)
    by_contra other
    have symmetric : Std.Symm fun a b : PageEntry => ¬ a.sameKey b := ⟨fun _ _ h h' => h (PageEntry.sameKey_symm h')⟩
    exact law.keys.forall (List.mem_of_find?_eq_some found) mem (fun same => other (congrArg some same)) key

/-- A request that is Taken and hits the page cache has its translation, and the entry moves. -/
theorem exec_arrival_of_hit {s : State} {m : Master} {r : Request} {n : ApertureId} {e : PageEntry} (law : PageCacheLaw s)
    (admits : s.admits m r n) (walked : (s.aperture n).mode = .walked) (mem : e ∈ s.pageCache) (own : e.aperture = n)
    (page : e.page = (s.aperture n).pageIndex r.address) :
    exec (.arrival m r) s = .next (takeTranslated m r n (s.port m).taken e.access
      ((s.aperture n).walkedAddress e.frame r.address)
      { s.taken m r n with pageCache := s.pageCache.erase e ++ [e] }) := by
  have found := law.lookup mem
  rw [own, page] at found
  have mode : ((emit (.answer m r.tag .taken) s).aperture n).mode = .walked := walked
  have found' : (emit (.answer m r.tag .taken) s).pageLookup n
    (((emit (.answer m r.tag .taken) s).aperture n).pageIndex r.address) = some e := found
  have touched : touchPage e (admitRequest m r n (emit (.answer m r.tag .taken) s)) =
      { s.taken m r n with pageCache := s.pageCache.erase e ++ [e] } :=
    touchPage_eq (s := admitRequest m r n (emit (.answer m r.tag .taken) s)) law.keys mem
  rw [admits.judged fun _ => .inl (by rw [found]; rfl)]
  simp only [takeRequest, mode, found', touched]
  rfl

/-- The rights of a map entry, as the kinds of access that they permit (R61). -/
theorem permits_iff (rights : MapAccess) (kind : AccessKind) : permits rights kind = true ↔
    rights = .readWrite ∨ rights = .read ∧ kind = .read ∨ rights = .write ∧ kind = .write := by
  cases rights <;> cases kind <;> simp [permits]

/-- Settles O30: as O28 and O29, with the frame and the rights of the entry that moves. -/
theorem cacheHitsAreServedAtTheArrival : Obligations.CacheHitsAreServedAtTheArrival := by
  intro m r n s e law admits walked mem own page a p hit permitted
  have judged := exec_arrival_of_hit law admits walked mem own page
  have rights : permits e.access r.kind = true ↔ permitted := permits_iff e.access r.kind
  refine ⟨fun allowed class' => ?_, fun k why => ?_⟩
  · have passes : hit.check r.kind e.access (p / 4096) = none := State.check_eq_none (s := s) (rights.2 allowed) class'
    refine ⟨fun beats body => judged.trans (congrArg _ (takeTranslated_of_read passes body _)), fun beats body => ?_⟩
    obtain ⟨same, ports⟩ := takeTranslated_write_eq (n := n) (arrival := (s.port m).taken) passes body (State.taken_live admits)
    have posting : (hit.aperture n).posting = a.posting := by
      change ((s.taken m r n).aperture n).posting = _
      rw [State.taken_aperture, if_pos rfl]
    have waiting : (hit.port m).completions = (s.port m).completions := by
      change ((s.taken m r n).port m).completions = _
      rw [State.taken_port, if_pos rfl]
    rw [posting] at same ports
    rw [waiting] at ports
    refine ⟨_, judged, same, fun o => (ports o).trans ?_⟩
    split
    · rfl
    · rename_i other
      exact (State.taken_port s m r n o).trans (if_neg other)
  · have fails : s.check r.kind e.access (p / 4096) = some k := by
      obtain ⟨denied, rfl⟩ | ⟨allowed, out, rfl⟩ | ⟨allowed, readOnly, write, rfl⟩ := why
      · exact State.check_of_not_permitted (Bool.eq_false_iff.2 (rights.not.2 denied))
      · rw [State.check_of_permitted (rights.2 allowed)]
        exact State.regionCheck_of_outOfRange _ out
      · rw [State.check_of_permitted (rights.2 allowed), write]
        exact State.regionCheck_write_of_readOnly readOnly
    obtain ⟨ports, apertures, reported, same⟩ :=
      takeTranslated_fault_eq (arrival := (s.port m).taken) (s.pageCache.erase e ++ [e]) admits fails
    exact ⟨_, judged, ports, apertures, reported, same⟩

end Sys2Proof.Machine

/-! PROOFS. The misses of the page cache: the slot and the placement of a request, and the entry of a walk to its first table
read (sections 3.2, 4.2, 4.3, 5.1). -/

namespace Sys2Proof.Machine

/-! ## The directory cache -/

theorem State.dirLookup_eq_none {s : State} {n : ApertureId} {i : Nat} :
    s.dirLookup n i = none ↔ ∀ e ∈ s.dirCache, ¬ (e.aperture = n ∧ e.index = i) := by
  simp only [State.dirLookup, List.find?_eq_none, DirEntry.hasKey_iff]

/-- Under the law of the directory cache two entries of one key are one. -/
theorem DirCacheLaw.eq_of_key {s : State} (law : DirCacheLaw s) {d e : DirEntry} (mem : d ∈ s.dirCache) (mem' : e ∈ s.dirCache)
    (aperture : d.aperture = e.aperture) (index : d.index = e.index) : d = e := by
  have symmetric : Std.Symm fun a b : DirEntry => ¬ (a.aperture = b.aperture ∧ a.index = b.index) :=
    ⟨fun _ _ h h' => h ⟨h'.1.symm, h'.2.symm⟩⟩
  by_contra other
  exact law.keys.forall mem mem' other ⟨aperture, index⟩

/-- Under the law of the directory cache the lookup finds the one entry of the key. -/
theorem DirCacheLaw.lookup {s : State} (law : DirCacheLaw s) {e : DirEntry} (mem : e ∈ s.dirCache) :
    s.dirLookup e.aperture e.index = some e := by
  cases found : s.dirLookup e.aperture e.index with
  | none => exact absurd ⟨rfl, rfl⟩ (State.dirLookup_eq_none.1 found e mem)
  | some d =>
    obtain ⟨aperture, index⟩ := (DirEntry.hasKey_iff _ _ d).1 (List.find?_some found)
    rw [law.eq_of_key (List.mem_of_find?_eq_some found) mem aperture index]

theorem DirCacheLaw.nodup {s : State} (law : DirCacheLaw s) : s.dirCache.Nodup :=
  law.keys.imp fun apart same => apart ⟨congrArg _ same, congrArg _ same⟩

/-- Under the law of the directory cache a hit takes the entry out of its place and puts it last. -/
theorem DirCacheLaw.touchDir_eq {s : State} (law : DirCacheLaw s) {e : DirEntry} (mem : e ∈ s.dirCache) :
    Machine.touchDir e s = { s with dirCache := s.dirCache.erase e ++ [e] } := by
  have kept : s.dirCache.filter (fun x => !x.hasKey e.aperture e.index) = s.dirCache.erase e := by
    rw [law.nodup.erase_eq_filter]
    refine List.filter_congr fun x inside => ?_
    have key : x.hasKey e.aperture e.index = true ↔ x = e := by
      rw [DirEntry.hasKey_iff]
      exact ⟨fun ⟨aperture, index⟩ => law.eq_of_key inside mem aperture index, fun same => same ▸ ⟨rfl, rfl⟩⟩
    by_cases same : x = e
    · simp [same, DirEntry.hasKey]
    · simp [Bool.eq_false_iff.2 (mt key.1 same), same]
  rw [Machine.touchDir, kept]

/-! ## The entry of a walk to its first table read (R63, R71, R74) -/

theorem State.outOfRange_eq_false {s : State} {f : Nat} :
    s.outOfRange f = false ↔ s.classify f = .normal ∨ s.classify f = .readOnly := by
  rw [State.outOfRange]
  cases s.classify f <;> simp

theorem Aperture.directoryFrame_eq (a : Aperture) : a.directoryFrame = BitVec.ofNat 24 (a.tableAddress.toNat / 256) := by
  rw [Aperture.directoryFrame, show a.tableAddress.toNat * 16 / 4096 = a.tableAddress.toNat / 256 by omega]

/-- What an event answers that enters a walk of a key in context `c`, `walking v` being the state with the walk `v` in it: the
table read that becomes pending, or, with its frame out of range, the walk completion that takes its place. -/
def TableEntry (s : State) (answer : Result) (c : ContextId) (n : ApertureId) (page : Nat) (table : Word)
    (walking : Walk → State) : Prop :=
  let inRange (f : Frame) : Prop := s.classify f.toNat = .normal ∨ s.classify f.toNat = .readOnly
  ((∀ e ∈ s.dirCache, ¬ (e.aperture = n ∧ e.index = page / 1024)) →
    let f : Frame := BitVec.ofNat 24 (table.toNat / 256)
    (inRange f → answer = .next
      { walking ⟨.directoryRead, n, page, .pending s.readySeq, false, false⟩ with readySeq := s.readySeq + 1 }) ∧
    (¬ inRange f → answer =
      exec (.walkCompletion c (.fault (.tableOutOfRange f))) (walking ⟨.directoryRead, n, page, .none, false, false⟩))) ∧
  (∀ e ∈ s.dirCache, DirCacheLaw s → e.aperture = n → e.index = page / 1024 →
    let f := e.blockFrame
    let moved := s.dirCache.erase e ++ [e]
    (inRange f → answer = .next
      { walking ⟨.blockRead f, n, page, .pending s.readySeq, false, true⟩ with
        dirCache := moved, readySeq := s.readySeq + 1 }) ∧
    (¬ inRange f → answer = exec (.walkCompletion c (.fault (.tableOutOfRange f)))
      { walking ⟨.blockRead f, n, page, .none, false, true⟩ with dirCache := moved }))

theorem exec_walkCompletion {s : State} {c : ContextId} {w : Walk} (high : s.resetLow = false) (waits : s.awaits c w)
    (r : WalkResult) : exec (.walkCompletion c r) s = .next (completeWalk c r s) := by
  obtain ⟨walks, unread⟩ := waits
  dsimp only [exec, execWalkCompletion]
  rw [whenReleased_of_high high]
  simp only [walks, unread, if_true]

/-- A walk that ends at its entry completes with its result in the same event. -/
theorem finishEntry_some {s : State} {c : ContextId} {w : Walk} (high : s.resetLow = false) (unread : w.read = .none)
    (r : WalkResult) : Host.Outcome.next (finishEntry c (s.setContext c (some w), some r)) =
      exec (.walkCompletion c r) (s.setContext c (some w)) :=
  (exec_walkCompletion (s := s.setContext c (some w)) (w := w) high ⟨by simp, unread⟩ r).symm

/-- The entry of a walk that has waiters and whose aperture is not Draining. -/
theorem tableEntry_enterDirectory {s u : State} {c : ContextId} {w : Walk} {table : Word} (high : u.resetLow = false)
    (fresh : w.stale = false) (waited : ∃ k ∈ u.park, k.placement = .waiting c)
    (live : (u.aperture w.aperture).state ≠ .draining) (regions : u.regions = s.regions) (dirs : u.dirCache = s.dirCache)
    (ready : u.readySeq = s.readySeq) (address : (u.aperture w.aperture).tableAddress = table) :
    TableEntry s (.next (finishEntry c (enterDirectory c w u))) c w.aperture w.page table
      (fun v => u.setContext c (some v)) := by
  obtain ⟨phase, n, page, read, stale, used⟩ := w
  subst fresh
  have classes (f : Nat) : u.outOfRange f = s.outOfRange f := by simp only [State.outOfRange, State.classify, regions]
  refine ⟨fun miss => ?_, fun e mem law own index => ?_⟩
  · have miss' : u.dirLookup n (page / 1024) = none := State.dirLookup_eq_none.2 (dirs ▸ miss)
    rw [enterDirectory_of_miss miss', State.directoryEntry, classes, Aperture.directoryFrame_eq, address, ← ready]
    refine ⟨fun inside => ?_, fun outside => ?_⟩
    · rw [State.outOfRange_eq_false.2 inside]
      simp only [Bool.false_eq_true, if_false]
      rfl
    · rw [Bool.eq_true_of_not_eq_false (mt State.outOfRange_eq_false.1 outside)]
      exact finishEntry_some high rfl _
  · have law' : DirCacheLaw u := ⟨dirs ▸ law.size, dirs ▸ law.keys⟩
    have mem' : e ∈ u.dirCache := dirs ▸ mem
    have hit := law'.lookup mem'
    rw [own, index] at hit
    have some' : (u.waiters c).isEmpty = false := by
      obtain ⟨k, inside, waits⟩ := waited
      rw [List.isEmpty_eq_false_iff]
      exact List.ne_nil_of_mem (List.mem_filter.2 ⟨inside, decide_eq_true waits⟩)
    have entry : u.blockEntry c ⟨phase, n, page, read, false, true⟩ e.blockFrame =
        if s.outOfRange e.blockFrame.toNat then some (.fault (.tableOutOfRange e.blockFrame)) else none := by
      rw [State.blockEntry, some', classes]
      simp [live]
    rw [enterDirectory_of_hit hit, entry, law'.touchDir_eq mem', ← ready, ← dirs]
    refine ⟨fun inside => ?_, fun outside => ?_⟩
    · rw [State.outOfRange_eq_false.2 inside]
      simp only [Bool.false_eq_true, if_false]
      rfl
    · rw [Bool.eq_true_of_not_eq_false (mt State.outOfRange_eq_false.1 outside)]
      exact finishEntry_some (s := { u with dirCache := u.dirCache.erase e ++ [e] }) high rfl _

/-! ## The slot and the placement of a miss (R69, R91) -/

/-- In a list in rising order the search finds the least element that passes. -/
theorem find?_of_least {l : List SlotId} (rising : l.Pairwise (· < ·)) {p : SlotId → Bool} {k : SlotId} (mem : k ∈ l)
    (passes : p k = true) (least : ∀ j, j < k → p j = false) : l.find? p = some k := by
  cases found : l.find? p with
  | none => exact absurd passes (by simpa using List.find?_eq_none.1 found k mem)
  | some x =>
    obtain ⟨px, front, back, rfl, before⟩ := List.find?_eq_some_iff_append.1 found
    obtain inFront | rfl | inBack : k ∈ front ∨ k = x ∨ k ∈ back := by simpa using mem
    · exact absurd passes (by simpa using before k inFront)
    · rfl
    · have below : x < k := (List.pairwise_cons.1 (List.pairwise_append.1 rising).2.1).1 k inBack
      exact absurd px (Bool.eq_false_iff.1 (least x below))

theorem State.freeSlotNumber_of_least {s : State} {k : SlotId} (free : ∀ x ∈ s.park, x.num ≠ k)
    (least : ∀ j : SlotId, j < k → ∃ x ∈ s.park, x.num = j) : s.freeSlotNumber = some k := by
  refine find?_of_least (by decide) (mem_allSlots k) (by simpa using free) fun j below => ?_
  obtain ⟨x, inside, taken⟩ := least j below
  exact Bool.eq_false_iff.2 fun all => by simpa [taken] using List.all_eq_true.1 all x inside

theorem State.contextFor_eq_none {s : State} {n : ApertureId} {page : Nat} :
    s.contextFor n page = none ↔ ∀ d w, s.context d = some w → ¬ (w.aperture = n ∧ w.page = page) := by
  rw [State.contextFor, List.find?_eq_none]
  refine ⟨fun none d w walks key => none d (by fin_cases d <;> simp) ?_, fun apart d _ found => ?_⟩
  · simp [walks, key]
  · cases walks : s.context d with
    | none => simp [walks] at found
    | some w => exact apart d w walks (by simpa [walks] using found)

theorem State.contextFor_of_unique {s : State} {n : ApertureId} {page : Nat} {c : ContextId} {w : Walk} (walks : s.context c = some w)
    (own : w.aperture = n) (key : w.page = page)
    (only : ∀ d v, s.context d = some v → v.aperture = n → v.page = page → d = c) : s.contextFor n page = some c := by
  cases found : s.contextFor n page with
  | none => exact absurd ⟨own, key⟩ (State.contextFor_eq_none.1 found c w walks)
  | some d =>
    have holds := List.find?_some found
    cases busy : s.context d with
    | none => simp [busy] at holds
    | some v =>
      obtain ⟨own', key'⟩ : v.aperture = n ∧ v.page = page := by simpa [busy] using holds
      rw [only d v busy own' key']

theorem State.idleContext_of_first {s : State} {c : ContextId} (idle : s.context c = none)
    (first : c = 1 → s.context 0 ≠ none) : s.idleContext = some c := by
  rw [State.idleContext, List.find?_cons]
  fin_cases c
  · have idle' : s.context 0 = none := idle
    simp [idle']
  · have idle' : s.context 1 = none := idle
    have busy : (s.context 0).isNone = false := by simpa using Option.isSome_iff_ne_none.2 (first rfl)
    simp [busy, idle']

theorem State.idleContext_eq_none {s : State} (busy : ∀ c, ∃ w, s.context c = some w) : s.idleContext = none := by
  rw [State.idleContext, List.find?_eq_none]
  intro c _
  obtain ⟨w, walks⟩ := busy c
  simp [walks]

/-- A miss that is Taken is parked in the lowest Free slot; a write leaves its Untranslated entry first. -/
theorem exec_arrival_of_miss {s : State} {m : Master} {r : Request} {n : ApertureId} {k : SlotId} (admits : s.admits m r n)
    (walked : (s.aperture n).mode = .walked)
    (miss : ∀ e ∈ s.pageCache, ¬ (e.aperture = n ∧ e.page = (s.aperture n).pageIndex r.address))
    (free : ∀ x ∈ s.park, x.num ≠ k) (least : ∀ j : SlotId, j < k → ∃ x ∈ s.park, x.num = j) :
    exec (.arrival m r) s = .next (parkRequest k m r n ((s.aperture n).pageIndex r.address) (s.port m).taken
      (leaveHole m r n (s.port m).taken (s.taken m r n))) := by
  have slot := State.freeSlotNumber_of_least free least
  have absent := State.pageLookup_eq_none.2 miss
  rw [admits.judged fun _ => .inr (by rw [slot]; rfl)]
  have mode : ((emit (.answer m r.tag .taken) s).aperture n).mode = .walked := walked
  have absent' : (emit (.answer m r.tag .taken) s).pageLookup n
    (((emit (.answer m r.tag .taken) s).aperture n).pageIndex r.address) = none := absent
  have placed : takeRequest m r n (emit (.answer m r.tag .taken) s) = takeMissed m r n (s.port m).taken (s.taken m r n) := by
    simp only [takeRequest, mode, absent']
    rfl
  have slot' : (s.taken m r n).freeSlotNumber = some k := slot
  have index : ((s.taken m r n).aperture n).pageIndex r.address = (s.aperture n).pageIndex r.address := by
    rw [State.taken_aperture, if_pos rfl]
    rfl
  rw [placed, takeMissed_eq]
  simp only [slot', index]

/-- The state that a parked miss leaves, before the walker has placed it. -/
theorem addSlot_leaveHole (m : Master) (r : Request) (n : ApertureId) (a : Nat) (x : ParkSlot) (s : State) :
    addSlot x (leaveHole m r n a s) = { s with
      park := s.park ++ [x]
      queues := match r.body with
        | .read _ => s.queues
        | .write beats => s.queues.set m { s.queue m with writes := (s.queue m).writes ++
            [⟨r.tag, a, r.address, beats, n, .untranslated, false, false⟩] } } := by
  cases body : r.body with
  | read beats => rw [leaveHole_of_read body]; rfl
  | write beats => rw [leaveHole_of_write body]; rfl

/-- Settles O31: the three searches of a miss, for a slot, for a walk of its key and for an Idle context. -/
theorem missesParkInTheLowestFreeSlot : Obligations.MissesParkInTheLowestFreeSlot := by
  intro m r n s k place admits walked page miss free least placed
  rw [exec_arrival_of_miss admits walked miss free least, parkRequest_eq]
  have contexts (d : ContextId) : (leaveHole m r n (s.port m).taken (s.taken m r n)).context d = s.context d := by
    simp [State.taken, State.context]
  have timeout : (leaveHole m r n (s.port m).taken (s.taken m r n)).parkTimeout = s.parkTimeout := by simp [State.taken]
  rw [timeout]
  obtain ⟨c, w, rfl, walks, own, key, only⟩ | ⟨rfl, busy⟩ := placed
  · have joins : (leaveHole m r n (s.port m).taken (s.taken m r n)).contextFor n ((s.aperture n).pageIndex r.address) = some c :=
      State.contextFor_of_unique ((contexts c).trans walks) own key fun d v busy => only d v ((contexts d).symm.trans busy)
    simp only [joins]
    exact congrArg _ (addSlot_leaveHole ..)
  · have alone : (leaveHole m r n (s.port m).taken (s.taken m r n)).contextFor n ((s.aperture n).pageIndex r.address) = none := by
      refine State.contextFor_eq_none.2 fun d v walks => ?_
      obtain ⟨w, busy, other⟩ := busy d
      cases ((contexts d).symm.trans walks).symm.trans busy
      exact other
    have none : (leaveHole m r n (s.port m).taken (s.taken m r n)).idleContext = none :=
      State.idleContext_eq_none fun d => ⟨_, (contexts d).trans (busy d).choose_spec.1⟩
    simp only [alone, none]
    exact congrArg _ (addSlot_leaveHole ..)

/-- Settles O32: the entry of a new walk, in the state that the parked request leaves. -/
theorem missesStartAWalkInAnIdleContext : Obligations.MissesStartAWalkInAnIdleContext := by
  intro m r n s k c admits walked page miss free least idle apart first
  have high : s.resetLow = false := admits.1.1
  let x : ParkSlot := parkedSlot k m r n page (s.port m).taken (.waiting c) s.parkTimeout
  have contexts (d : ContextId) : (leaveHole m r n (s.port m).taken (s.taken m r n)).context d = s.context d := by
    simp [State.taken, State.context]
  have timeout : (leaveHole m r n (s.port m).taken (s.taken m r n)).parkTimeout = s.parkTimeout := by simp [State.taken]
  have alone : (leaveHole m r n (s.port m).taken (s.taken m r n)).contextFor n ((s.aperture n).pageIndex r.address) = none :=
    State.contextFor_eq_none.2 fun d v walks => apart d v ((contexts d).symm.trans walks)
  have idles : (leaveHole m r n (s.port m).taken (s.taken m r n)).idleContext = some c :=
    State.idleContext_of_first ((contexts c).trans idle) fun one => by rw [contexts]; exact first one
  have started : exec (.arrival m r) s = .next (finishEntry c (enterDirectory c ⟨.directoryRead, n, page, .none, false, false⟩
      (addSlot x (leaveHole m r n (s.port m).taken (s.taken m r n))))) := by
    rw [exec_arrival_of_miss admits walked miss free least, parkRequest_eq, timeout]
    simp only [alone, idles]
    rfl
  rw [addSlot_leaveHole] at started
  rw [started]
  have table : ((s.taken m r n).aperture n).tableAddress = (s.aperture n).tableAddress := by
    rw [State.taken_aperture, if_pos rfl]
  exact tableEntry_enterDirectory (s := s) (w := ⟨.directoryRead, n, page, .none, false, false⟩) high rfl
    ⟨x, List.mem_append_right _ (List.mem_singleton_self x), rfl⟩
    (fun draining => nomatch (State.taken_opened admits).symm.trans draining) rfl rfl rfl table

end Sys2Proof.Machine

/-! PROOFS. Walks that end without effect, walks that restart, and the takeover of an Idle context (sections 4.3, 4.5, 4.6). -/

namespace Sys2Proof.Machine

/-! ## A walk completion, by what its judging answers -/

theorem completeWalk_of_still {s t : State} {c : ContextId} {w : Walk} {r : WalkResult} (walks : s.context c = some w)
    (judged : judgeWalk c w r s = (t, false)) : completeWalk c r s = t := by
  simp only [completeWalk, walks, judged]

theorem completeWalk_of_ended {s t : State} {c : ContextId} {w : Walk} {r : WalkResult} (walks : s.context c = some w)
    (judged : judgeWalk c w r s = (t, true)) :
    completeWalk c r s = takeover t.park.length c (idleReport w.aperture t) := by
  simp only [completeWalk, walks, judged]

theorem judgeWalk_of_unwanted {s : State} {c : ContextId} {w : Walk} (r : WalkResult)
    (unwanted : (∀ k ∈ s.park, k.placement ≠ .waiting c) ∨ (s.aperture w.aperture).state = .draining) :
    judgeWalk c w r s = (s.setContext c none, true) := by
  rw [judgeWalk, if_pos]
  obtain none | draining := unwanted
  · have empty : s.waiters c = [] := List.filter_eq_nil_iff.2 fun k mem => by simpa using none k mem
    simp [empty]
  · simp [draining]

theorem judgeWalk_of_wanted {s : State} {c : ContextId} {w : Walk} (r : WalkResult) (waited : ∃ k ∈ s.park, k.placement = .waiting c)
    (live : (s.aperture w.aperture).state ≠ .draining) : judgeWalk c w r s =
      if w.stale then
        match enterDirectory c { w with stale := false } s with
        | (s1, none) => (s1, false)
        | (s1, some r1) => settleWalk c w r1 s1
      else settleWalk c w r s := by
  obtain ⟨k, mem, waits⟩ := waited
  have inside : k ∈ s.waiters c := List.mem_filter.2 ⟨mem, decide_eq_true waits⟩
  have some' : (s.waiters c).isEmpty = false := List.isEmpty_eq_false_iff.2 (List.ne_nil_of_mem inside)
  unfold judgeWalk
  exact if_neg (by simp [some', live])

/-! ## The takeover -/

theorem exec_takeover {s : State} {c : ContextId} (high : s.resetLow = false) (idle : s.context c = none) :
    exec (.takeover c) s = .next (takeover s.park.length c s) := by
  dsimp only [exec, execTakeover]
  rw [whenReleased_of_high high, idle]
  rfl

theorem takeover_of_none_queued {s : State} (none : ∀ k ∈ s.park, k.placement ≠ .queued) (fuel : Nat) (c : ContextId) :
    takeover fuel c s = s := by
  have empty : s.queuedSlots = [] := List.filter_eq_nil_iff.2 fun k mem => by simpa using none k mem
  cases fuel <;> simp [takeover, empty]

theorem State.queuedSlots_le (s : State) : s.queuedSlots.length ≤ s.park.length := List.length_filter_le _ _

/-- The oldest Queued slot takes the context: its walk starts, and one that completes at its entry does so as any other
(R70, R71). -/
theorem takeover_eq {s : State} {c : ContextId} {k : ParkSlot} {more : List ParkSlot} (queued : s.queuedSlots = k :: more) :
    takeover s.park.length c s = finishEntry c (startWalk c k.aperture k.page (joinQueued c k.aperture k.page s)) := by
  have few := s.queuedSlots_le
  rw [queued, List.length_cons] at few
  obtain ⟨fuel, size⟩ : ∃ fuel, s.park.length = fuel + 1 := ⟨s.park.length - 1, by omega⟩
  have fewer := joinQueued_lt c queued
  rw [queued, List.length_cons] at fewer
  have started : (startWalk c k.aperture k.page (joinQueued c k.aperture k.page s)).1.park =
    (joinQueued c k.aperture k.page s).park := by simp
  rw [size, takeover]
  simp only [queued]
  generalize startWalk c k.aperture k.page (joinQueued c k.aperture k.page s) = entry at started ⊢
  obtain ⟨u, result⟩ := entry
  replace started : u.park = _ := started
  cases result with
  | none => rfl
  | some r =>
  change _ = completeWalk c r u
  cases walks : u.context c with
  | none => simp only [completeWalk, walks]
  | some w =>
    have kept := judgeWalk_park_sublist c w r u
    cases judged : judgeWalk c w r u with
    | mk t ended =>
      rw [judged] at kept
      have left : (idleReport w.aperture t).queuedSlots.length ≤ (joinQueued c k.aperture k.page s).queuedSlots.length :=
        queuedSlots_le_of_park (by simpa [idleReport] using started ▸ kept)
      have room : (idleReport w.aperture t).queuedSlots.length ≤ t.park.length := by
        simpa [idleReport] using (idleReport w.aperture t).queuedSlots_le
      simp only [walks, judged]
      cases ended with
      | false => exact (completeWalk_of_still walks judged).symm
      | true => exact (takeover_bound c _ _ _ _ le_rfl (by omega) room).trans (completeWalk_of_ended walks judged).symm

/-! ## Stale walks -/

/-- What a walk's entry leaves of the state: everything but its context, the directory cache and the ready times. -/
theorem enterDirectory_fresh (c : ContextId) (w : Walk) (s : State) :
    ∃ v, (enterDirectory c w s).1.context c = some v ∧ v.sameKey w ∧ v.stale = w.stale := by
  cases look : s.dirLookup w.aperture (w.page / 1024) with
  | none =>
    rw [enterDirectory_of_miss look, enterWith_context, if_pos rfl]
    exact ⟨_, rfl, ⟨rfl, rfl⟩, rfl⟩
  | some e =>
    rw [enterDirectory_of_hit look, enterWith_context, if_pos rfl]
    exact ⟨_, rfl, ⟨rfl, rfl⟩, rfl⟩

/-- Settling looks at the key of its walk alone. -/
theorem settleWalk_congr {c : ContextId} {v w : Walk} (key : v.sameKey w) (r : WalkResult) (s : State) :
    settleWalk c v r s = settleWalk c w r s := by
  obtain ⟨own, page⟩ := key
  cases r <;> simp only [settleWalk, own, page]

/-- A stale walk with waiters restarts: it enters the directory phase again, whatever its result was (R81). -/
theorem completeWalk_of_stale {s : State} {c : ContextId} {w : Walk} (r : WalkResult) (walks : s.context c = some w)
    (stale : w.stale = true) (waited : ∃ k ∈ s.park, k.placement = .waiting c)
    (live : (s.aperture w.aperture).state ≠ .draining) :
    completeWalk c r s = finishEntry c (enterDirectory c { w with stale := false } s) := by
  have judged := judgeWalk_of_wanted r waited live
  rw [if_pos stale] at judged
  obtain ⟨v, entered, key, fresh⟩ := enterDirectory_fresh c { w with stale := false } s
  have park : (enterDirectory c { w with stale := false } s).1.park = s.park := by simp
  have apertures (n : ApertureId) : (enterDirectory c { w with stale := false } s).1.aperture n = s.aperture n := by simp
  rw [finishEntry]
  cases entry : enterDirectory c { w with stale := false } s with
  | mk u result =>
    rw [entry] at judged park apertures entered
    cases result with
    | none => exact completeWalk_of_still walks judged
    | some r1 =>
      change _ = completeWalk c r1 u
      have judged' := judgeWalk_of_wanted (s := u) (w := v) r1 (park ▸ waited) (by rw [apertures, key.1]; exact live)
      rw [fresh] at judged'
      simp only [Bool.false_eq_true, if_false] at judged'
      have same : judgeWalk c w r s = judgeWalk c v r1 u := judged.trans ((settleWalk_congr key r1 u).symm.trans judged'.symm)
      cases settled : judgeWalk c v r1 u with
      | mk t ended =>
        rw [settled] at same
        cases ended with
        | false => exact (completeWalk_of_still walks same).trans (completeWalk_of_still entered settled).symm
        | true =>
          rw [completeWalk_of_ended walks same, completeWalk_of_ended entered settled, key.1]

/-- Settles O42: a walk that nobody waits for ends, and a stale one enters its directory phase again. -/
theorem waiterlessWalksEndAndStaleWalksRestart : Obligations.WaiterlessWalksEndAndStaleWalksRestart := by
  intro s c w r high walks unread
  refine ⟨fun unwanted => ?_, fun stale waited live => ?_⟩
  · let u := idleReport w.aperture (s.setContext c none)
    have ended := completeWalk_of_ended walks (judgeWalk_of_unwanted r unwanted)
    have park : u.park = s.park := by simp [u, idleReport]
    have idle : u.context c = none := by simp [u, idleReport]
    have high' : u.resetLow = false := by simpa [u, idleReport] using high
    have executed : exec (.walkCompletion c r) s = exec (.takeover c) u := by
      rw [exec_walkCompletion high ⟨walks, unread⟩, ended, exec_takeover high' idle, park]
      rfl
    refine ⟨u, ?_, executed, fun none => ?_, fun live => ?_⟩
    · dsimp only [exec, execEndOfDrain]
      exact whenReleased_of_high (s := s.setContext c none) high _
    · rw [executed, exec_takeover high' idle, takeover_of_none_queued (by rw [park]; exact none)]
    · exact drainTest_of_not_due (s := s.setContext c none) fun due => live due.1
  · have restarted := (exec_walkCompletion high ⟨walks, unread⟩ r).trans
      (congrArg _ (completeWalk_of_stale r walks stale waited live))
    intro walking inRange
    rw [restarted]
    exact tableEntry_enterDirectory (s := s) (w := { w with stale := false }) high rfl waited live rfl rfl rfl rfl

/-- Settles O44: the oldest Queued slot's walk enters its directory phase. -/
theorem takeoverStartsTheOldestQueuedSlotsWalk : Obligations.TakeoverStartsTheOldestQueuedSlotsWalk := by
  intro s c k pre post high idle split first queued live walking inRange
  have oldest : s.queuedSlots = k :: post.filter (·.placement = .queued) := by
    have before : pre.filter (·.placement = .queued) = [] := List.filter_eq_nil_iff.2 fun x mem => by simpa using first x mem
    rw [State.queuedSlots, split, List.filter_append, before, List.filter_cons_of_pos (by simpa using queued)]
    rfl
  have started : exec (.takeover c) s = .next (finishEntry c (enterDirectory c
      ⟨.directoryRead, k.aperture, k.page, .none, false, false⟩ (joinQueued c k.aperture k.page s))) :=
    (exec_takeover high idle).trans (congrArg _ (takeover_eq oldest))
  have joined : (joinQueued c k.aperture k.page s).park = s.park.map fun x =>
      if x.placement = .queued ∧ x.aperture = k.aperture ∧ x.page = k.page then { x with placement := .waiting c } else x :=
    List.map_congr_left fun x _ => by simp only [Bool.and_eq_true, decide_eq_true_eq, and_assoc]
  have waited : ∃ x ∈ (joinQueued c k.aperture k.page s).park, x.placement = .waiting c := by
    rw [joined]
    exact ⟨_, List.mem_map_of_mem (split ▸ List.mem_append_right _ List.mem_cons_self), by simp [queued]⟩
  rw [started]
  have entered := tableEntry_enterDirectory (s := s) (w := ⟨.directoryRead, k.aperture, k.page, .none, false, false⟩)
    (u := joinQueued c k.aperture k.page s) (table := (s.aperture k.aperture).tableAddress) high rfl waited live rfl rfl rfl rfl
  have same (v : Walk) : (joinQueued c k.aperture k.page s).setContext c (some v) = walking v := by
    change { s with park := (joinQueued c k.aperture k.page s).park, contexts := s.contexts.set c (some v) } = walking v
    rw [joined]
  simp only [same] at entered
  exact entered

end Sys2Proof.Machine

/-! PROOFS. The memory completion of a walk's read, judged by the entry that it brings (section 4.4, R56, R73 to R75, R131,
R182). -/

namespace Sys2Proof.Machine

/-- The access field of a map entry, by its two bits (R182). -/
theorem entryAccess_eq (e : Word) : entryAccess e = match e.getLsbD 2, e.getLsbD 1 with
    | false, false => .noAccess
    | false, true => .read
    | true, false => .write
    | true, true => .readWrite := by
  have field : e.extractLsb' 1 2 = BitVec.ofBool (e.getLsbD 2) ++ BitVec.ofBool (e.getLsbD 1) := by
    refine BitVec.eq_of_getLsbD_eq fun i inside => ?_
    obtain rfl | rfl : i = 0 ∨ i = 1 := by omega
    · rw [BitVec.getLsbD_append, BitVec.getLsbD_extractLsb']; simp
    · rw [BitVec.getLsbD_append, BitVec.getLsbD_extractLsb']; simp
  rw [entryAccess, field]
  cases e.getLsbD 2 <;> cases e.getLsbD 1 <;> rfl

/-- The entries beside which a directory fill is installed (R56). -/
theorem makeDirRoom_eq (n : ApertureId) (i : Nat) (l : List DirEntry) :
    let others := l.filter fun d => ¬ (d.aperture = n ∧ d.index = i)
    makeDirRoom n i l = if others.length < l.length then others else if l.length < 8 then l else l.tail := by
  intro others
  have same : l.filter (fun x => !x.hasKey n i) = others :=
    List.filter_congr fun x _ => by simp [DirEntry.hasKey]
  rw [makeDirRoom, same, List.drop_one]
  have present : l.any (·.hasKey n i) = true ↔ others.length < l.length := by
    rw [List.any_eq_true]
    refine ⟨fun ⟨e, mem, key⟩ => same ▸ length_filter_not_hasKey_lt mem key, fun fewer => ?_⟩
    by_contra absent
    have all : others = l := List.filter_eq_self.2 fun d mem => by
      simpa only [decide_eq_true_eq] using fun ⟨own, index⟩ => absent ⟨d, mem, (DirEntry.hasKey_iff n i d).2 ⟨own, index⟩⟩
    exact absurd fewer (by rw [all]; omega)
  by_cases fewer : others.length < l.length
  · rw [if_pos (present.2 fewer), if_pos fewer]
  · rw [if_neg (present.not.2 fewer), if_neg fewer]

/-! ## The walk's read is done -/

theorem exec_memoryCompletion {s : State} {x : AccessRecord} {rest : List AccessRecord} (high : s.resetLow = false)
    (oldest : s.inFlight = x :: rest) (r : BusResult) :
    exec (.memoryCompletion r) s = .next (recordDone x r { s with inFlight := rest }) := by
  simp [exec, execMemoryCompletion, high, oldest]

theorem walkReadDone_of_directory {s : State} {c : ContextId} {w : Walk} (walks : s.context c = some w) (r : BusResult)
    (phase : w.phase = .directoryRead) :
    walkReadDone c r s = directoryDone c { w with read := .none } r (s.setContext c (some { w with read := .none })) := by
  simp only [walkReadDone, walks, phase]

theorem walkReadDone_of_block {s : State} {c : ContextId} {w : Walk} {f : Frame} (walks : s.context c = some w) (r : BusResult)
    (phase : w.phase = .blockRead f) : walkReadDone c r s = completeWalk c
      (mapResult { w with read := .none } f (s.aperture w.aperture) r) (s.setContext c (some { w with read := .none })) := by
  simp only [walkReadDone, walks, phase]
  rfl

/-- A directory read that brings a valid entry: the directory cache takes it where the walk is waited for, and the block phase
is entered (R56, R73, R74). -/
theorem directoryDone_of_valid {s : State} {c : ContextId} {w : Walk} {beats : Vector Beat 8}
    (valid : entryValid (entryOfBeat (w.entryAddress (s.aperture w.aperture)) beats[0]) = true) (unused : w.dirUsed = false) :
    directoryDone c w (.okay beats) s =
      finishEntry c (enterBlock c w (entryFrame (entryOfBeat (w.entryAddress (s.aperture w.aperture)) beats[0]))
        (if (s.waiters c).isEmpty then s
          else fillDir w (entryFrame (entryOfBeat (w.entryAddress (s.aperture w.aperture)) beats[0])) s)) := by
  simp only [directoryDone, valid, unused, if_true]
  cases (s.waiters c).isEmpty <;> rfl

theorem directoryDone_of_invalid {s : State} {c : ContextId} {w : Walk} {beats : Vector Beat 8}
    (invalid : entryValid (entryOfBeat (w.entryAddress (s.aperture w.aperture)) beats[0]) = false) :
    directoryDone c w (.okay beats) s = completeWalk c (.fault .notValid) s := by
  simp only [directoryDone, invalid, Bool.false_eq_true, if_false]

/-- A directory fill of a walk that is not stale, of an Open or Halted aperture (R56). -/
theorem fillDir_of_live {s : State} {w : Walk} (f : Frame) (fresh : w.stale = false)
    (live : (s.aperture w.aperture).state = .opened ∨ (s.aperture w.aperture).state = .halted) :
    fillDir w f s = { s with
      dirCache := makeDirRoom w.aperture (w.page / 1024) s.dirCache ++ [⟨w.aperture, w.page / 1024, f⟩] } := by
  obtain opened | halted := live
  · simp [fillDir, fresh, opened]
  · simp [fillDir, fresh, halted]

theorem fillDir_of_stale {s : State} {w : Walk} (f : Frame) (stale : w.stale = true) : fillDir w f s = s := by
  simp [fillDir, stale]

theorem fillDir_of_draining {s : State} {w : Walk} (f : Frame) (draining : (s.aperture w.aperture).state = .draining) :
    fillDir w f s = s := by
  simp [fillDir, draining]

theorem State.waiters_isEmpty (s : State) (c : ContextId) :
    (s.waiters c).isEmpty = true ↔ ¬ ∃ k ∈ s.park, k.placement = .waiting c := by
  simp [State.waiters]

/-- The block phase of a walk that is discarded at its entry (R74). -/
theorem enterBlock_of_unwanted {s : State} {c : ContextId} {w : Walk} (f : Frame)
    (unwanted : (¬ ∃ k ∈ s.park, k.placement = .waiting c) ∨ (s.aperture w.aperture).state = .draining ∨ w.stale = true) :
    enterBlock c w f s = (s.setContext c (some (w.atBlock f)), some .discarded) := by
  have ends : s.blockEntry c w f = some .discarded := by
    rw [State.blockEntry, if_pos]
    rw [← State.waiters_isEmpty] at unwanted
    simpa [or_assoc] using unwanted
  rw [enterBlock_eq, ends]
  rfl

/-- The block phase of any other walk: its map read becomes pending, or its block frame is out of range (R63, R74). -/
theorem enterBlock_of_wanted {s : State} {c : ContextId} {w : Walk} (f : Frame) (waited : ∃ k ∈ s.park, k.placement = .waiting c)
    (live : (s.aperture w.aperture).state ≠ .draining) (fresh : w.stale = false) : enterBlock c w f s =
      if s.outOfRange f.toNat then (s.setContext c (some (w.atBlock f)), some (.fault (.tableOutOfRange f)))
      else (makePending c (w.atBlock f) s, none) := by
  have some' : (s.waiters c).isEmpty = false := by
    rw [← Bool.not_eq_true, State.waiters_isEmpty]
    exact not_not_intro waited
  rw [enterBlock_eq, State.blockEntry, some']
  simp only [live, fresh, Bool.or_false, decide_false, Bool.false_eq_true, if_false]
  cases s.outOfRange f.toNat <;> rfl

/-- Settles O46: the result of each read, or the entry to the block phase that a valid directory entry brings. -/
theorem walkReadsAreJudgedByTheirEntry : Obligations.WalkReadsAreJudgedByTheirEntry := by
  intro s c n p rest w r high oldest walks a s0 completes half
  let v : Walk := { w with read := .none }
  let taken : State := { s with inFlight := rest }
  have done : exec (.memoryCompletion r) s = .next (walkReadDone c r taken) := exec_memoryCompletion high oldest r
  have walks' : taken.context c = some w := walks
  have waits : s0.awaits c v := ⟨(taken.context_setContext c c _).trans (if_pos rfl), rfl⟩
  have completed (x : WalkResult) (same : walkReadDone c r taken = completeWalk c x s0) : completes x :=
    done.trans ((congrArg _ same).trans (exec_walkCompletion (s := s0) high waits x).symm)
  refine ⟨fun phase => ⟨?_, ?_⟩, fun block phase => ⟨?_, ?_⟩⟩
  · rintro rfl
    refine completed _ ((walkReadDone_of_directory walks' _ phase).trans ?_)
    rw [directoryDone, Aperture.directoryFrame_eq]
    rfl
  · rintro beats rfl e f
    have judged := walkReadDone_of_directory walks' (.okay beats) phase
    have address : v.entryAddress a = a.tableAddress.toNat * 16 + 4 * (w.page / 1024) := by
      simp only [v, Walk.entryAddress, phase]
    have entry : entryOfBeat (v.entryAddress a) beats[0] = e := by rw [address]; rfl
    constructor
    · intro invalid
      refine completed _ (judged.trans ?_)
      have invalid' : entryValid (entryOfBeat (v.entryAddress (s0.aperture v.aperture)) beats[0]) = false :=
        (congrArg entryValid entry).trans invalid
      exact (directoryDone_of_invalid invalid' : directoryDone c v (.okay beats) s0 = _)
    · intro valid unused waited inRange others filled entered
      have valid' : entryValid (entryOfBeat (v.entryAddress (s0.aperture v.aperture)) beats[0]) = true :=
        (congrArg entryValid entry).trans valid
      have judged' := judged.trans (directoryDone_of_valid (s := s0) (c := c) (w := v) valid' unused)
      rw [show entryFrame (entryOfBeat (v.entryAddress (s0.aperture v.aperture)) beats[0]) = f from congrArg entryFrame entry]
        at judged'
      have context (dirs : List DirEntry) (u : Walk) : { s0 with dirCache := dirs }.setContext c (some u) =
          { taken with dirCache := dirs }.setContext c (some u) :=
            State.setContext_setContext { taken with dirCache := dirs } c _ _
      constructor
      · intro unwanted
        have kept : (if (s0.waiters c).isEmpty then s0 else fillDir v f s0) = s0 := by
          split
          · rfl
          · rename_i some'
            obtain none | draining | stale := unwanted
            · exact absurd ((s0.waiters_isEmpty c).2 none) some'
            · exact fillDir_of_draining f draining
            · exact fillDir_of_stale f stale
        rw [kept, enterBlock_of_unwanted (s := s0) (w := v) f unwanted] at judged'
        rw [done, judged']
        refine (finishEntry_some (s := s0) high rfl _).trans (congrArg (exec (.walkCompletion c .discarded)) ?_)
        exact context s.dirCache (v.atBlock f)
      · intro waits' fresh live
        have some' : (s0.waiters c).isEmpty = false := by
          rw [← Bool.not_eq_true, State.waiters_isEmpty]
          exact not_not_intro waits'
        have undrained : a.state ≠ .draining := by
          rintro draining
          obtain opened | halted := live
          · exact nomatch draining.symm.trans opened
          · exact nomatch draining.symm.trans halted
        have room : makeDirRoom v.aperture (v.page / 1024) s0.dirCache ++ [⟨v.aperture, v.page / 1024, f⟩] = filled :=
          congrArg (· ++ _) (makeDirRoom_eq ..)
        rw [some', if_neg (by simp), fillDir_of_live (s := s0) (w := v) f fresh live, room,
          enterBlock_of_wanted (s := { s0 with dirCache := filled }) (w := v) f waits' undrained fresh] at judged'
        rw [done, judged']
        refine ⟨fun outside => ?_, fun inside => ?_⟩
        · have out : { s0 with dirCache := filled }.outOfRange f.toNat = true :=
            Bool.eq_true_of_not_eq_false (mt (State.outOfRange_eq_false (s := { s0 with dirCache := filled })).1 outside)
          rw [out]
          refine (finishEntry_some (s := { s0 with dirCache := filled }) high rfl _).trans
            (congrArg (exec (.walkCompletion c (.fault (.tableOutOfRange f)))) ?_)
          exact context filled (v.atBlock f)
        · have within : { s0 with dirCache := filled }.outOfRange f.toNat = false :=
            (State.outOfRange_eq_false (s := { s0 with dirCache := filled })).2 inside
          rw [within]
          exact congrArg (fun u : State => Host.Outcome.next { u with readySeq := s.readySeq + 1 })
            (context filled { v.atBlock f with read := .pending s.readySeq })
  · rintro rfl
    exact completed _ (walkReadDone_of_block walks' _ phase)
  · rintro beats rfl e f access
    have judged := walkReadDone_of_block walks' (.okay beats) phase
    have address : v.entryAddress a = block.toNat * 4096 + 4 * (w.page % 1024) := by
      simp only [v, Walk.entryAddress, phase]
    have entry : entryOfBeat (v.entryAddress a) beats[0] = e := by rw [address]; rfl
    have result : mapResult v block a (.okay beats) =
        if !entryValid e then .fault .notValid
        else if a.pageSize = .k64 && (entryFrame e).toNat % 16 != 0 then .fault (.misalignedFrame (entryFrame e))
        else .success (entryFrame e) (entryAccess e) (entryKeep e) := by
      simp only [mapResult, entry]
    have settled (x : WalkResult) (same : mapResult v block a (.okay beats) = x) : completes x :=
      completed x (judged.trans (congrArg (completeWalk c · s0) same))
    refine ⟨fun invalid => settled _ (result.trans ?_), fun valid large odd => settled _ (result.trans ?_),
      fun valid fits => settled _ (result.trans ?_)⟩
    · rw [entryValid, invalid]
      rfl
    · have odd' : (entryFrame e).toNat % 16 ≠ 0 := odd
      rw [entryValid, valid]
      simp [large, odd']
      rfl
    · have fits' : ¬ (a.pageSize = .k64 ∧ (entryFrame e).toNat % 16 ≠ 0) := by
        rintro ⟨large, odd⟩
        obtain small | even := fits
        · exact nomatch large.symm.trans small
        · exact odd even
      rw [entryValid, valid, entryAccess_eq, if_neg (by simp), if_neg (by simpa using fits')]
      rfl

end Sys2Proof.Machine

/-! PROOFS. The invalidation queue in the words of the statements: pushes, invalidation commands, fences (chapter 8). -/

namespace Sys2Proof.Machine

/-! ## Pushes (R139 to R143) -/

theorem InvKind.ofBits_of_unknown : ∀ v : BitVec 3, 5 ≤ v.toNat → InvKind.ofBits v = none := by decide

/-- The kind that a staged kind field up to 4 names (R139). -/
theorem InvKind.ofBits_of_known : ∀ v : BitVec 3, v.toNat ≤ 4 → InvKind.ofBits v = some (match v.toNat with
    | 0 => .page | 1 => .range | 2 => .directory | 3 => .aperture | _ => .fence) := by decide

theorem Staging.command_of_known {g : Staging} (known : g.kind.toNat ≤ 4) : g.command = some ⟨match g.kind.toNat with
    | 0 => .page | 1 => .range | 2 => .directory | 3 => .aperture | _ => .fence,
    g.aperture, g.index, g.interrupt, g.firstPage, g.count⟩ := by
  rw [Staging.command, InvKind.ofBits_of_known _ known]
  rfl

theorem exec_push {s : State} (high : s.resetLow = false) (v : Word) : exec (.push v) s = .next (pushStaged s) := by
  dsimp only [exec, execPush]
  exact whenReleased_of_high high _

theorem pushStaged_of_queued {s : State} {q : InvCommand} (command : s.staging.command = some q) (room : s.invQueue.length < 8)
    (queued : s.invQueue ≠ []) : pushStaged s = { s with invQueue := s.invQueue ++ [q] } := by
  have filled : s.invQueue.isEmpty = false := by simpa using queued
  rw [pushStaged, command]
  simp only [Config.invQueueEntries, room, filled, if_true, Bool.false_eq_true, if_false]

/-- Settles O48: the kind of the staged command, then the room in the queue. -/
theorem pushJudgesTheKindThenTheSpace : Obligations.PushJudgesTheKindThenTheSpace := by
  intro v s high
  rw [exec_push high]
  refine ⟨fun unknown => ?_, fun known full => ?_, fun known room queued => ?_⟩
  · have none : s.staging.command = none := by rw [Staging.command, InvKind.ofBits_of_unknown _ unknown]; rfl
    rw [pushStaged, none]
    rfl
  · rw [pushStaged, Staging.command_of_known known]
    simp only [Config.invQueueEntries, Nat.not_lt.2 full, if_false]
    rfl
  · exact ⟨⟨_, _, _, _, _, _⟩, congrArg _ (pushStaged_of_queued (Staging.command_of_known known) room queued),
      rfl, rfl, rfl, rfl, rfl, rfl⟩

/-! ## The head of the queue -/

/-- What the row of a command does when it is at the head and no fence waits. -/
theorem exec_row_of_head {s : State} {q : InvCommand} {rest : List InvCommand} (high : s.resetLow = false)
    (queue : s.invQueue = q :: rest) (idle : s.fenceWaiting = false) :
    exec q.kind.row s = .next (handleHead (q :: rest) s) := by
  rw [exec_row, whenReleased_of_high high]
  simp [handleHeadOfKind, queue, idle]

theorem exec_row_of_waiting {s : State} (high : s.resetLow = false) (waits : s.fenceWaiting = true) (k : InvKind) :
    exec k.row s = .next s := by
  rw [exec_row, whenReleased_of_high high]
  unfold handleHeadOfKind
  split
  · rfl
  · simp [waits]

theorem handleHead_of_invalidation {s : State} {q : InvCommand} (rest : List InvCommand) (kind : q.kind ≠ .fence) :
    handleHead (q :: rest) s = handleHead rest (judgeInv q { s with invQueue := rest }) := by
  rw [handleHead, if_neg kind]

theorem judgeInv_of_closed {s : State} {q : InvCommand} (closed : (s.aperture q.aperture).state = .closed) : judgeInv q s = s := by
  rw [judgeInv, if_pos closed]

/-- Settles O50: the pushed command is handled as the head of a queue that holds it alone. -/
theorem pushOnAnEmptyQueueHandlesTheCommand : Obligations.PushOnAnEmptyQueueHandlesTheCommand := by
  intro v s c k high empty idle staged q
  have named : s.staging.command = some q ∧ c = k.row := by
    obtain ⟨kind, rfl, rfl⟩ | ⟨kind, rfl, rfl⟩ | ⟨kind, rfl, rfl⟩ | ⟨kind, rfl, rfl⟩ | ⟨kind, rfl, rfl⟩ := staged <;>
      exact ⟨by rw [Staging.command, kind]; rfl, rfl⟩
  obtain ⟨command, rfl⟩ := named
  have pushed : exec (.push v) s = .next (handleHead [q] s) := by
    rw [exec_push high, pushStaged, command]
    simp [empty, Config.invQueueEntries]
  refine ⟨?_, fun kind closed => ?_⟩
  · rw [pushed, exec_row_of_head (s := { s with invQueue := [q] }) (q := q) high rfl idle]
    rfl
  · have kept : { s with invQueue := [] } = s := by rw [← empty]
    rw [pushed, handleHead_of_invalidation [] kind, kept, judgeInv_of_closed closed, handleHead_nil empty]

/-! ## Invalidation commands (R65, R80, R143, R144) -/

theorem Aperture.pages_eq (a : Aperture) : a.pages = 2 ^ a.sizeCode.toNat * 2 ^ 20 / a.pageSize.bytes := rfl

theorem executeInv_context (q : InvCommand) (s : State) (d : ContextId) :
    (executeInv q s).context d = (s.context d).map q.markStale := by
  fin_cases d <;> rfl

/-- The cases of an invalidation command that names an aperture that is not Closed (R143). -/
theorem judgeInv_of_live {s : State} {q : InvCommand} (live : (s.aperture q.aperture).state ≠ .closed) : judgeInv q s =
    if q.malformed (s.aperture q.aperture) then setCause .invalidationError s else executeInv q s := by
  rw [judgeInv, if_neg live]

theorem InvCommand.malformed_iff {q : InvCommand} {a : Aperture} (live : a.state ≠ .closed) (kind : q.kind ≠ .fence) :
    q.malformed a = true ↔ ¬ match q.kind with
      | .page => q.firstPage.toNat < a.pages
      | .range => q.count.toNat ≠ 0 ∧ q.firstPage.toNat + q.count.toNat ≤ a.pages
      | .directory => q.index.toNat < a.pages / 1024 ∨ q.index.toNat = 0
      | .aperture => True
      | .fence => False := by
  have open' : (a.state != .closed) = true := bne_iff_ne.2 live
  rw [InvCommand.malformed, open', Bool.true_and]
  cases named : q.kind with
  | page => simp
  | range => simp only [Bool.or_eq_true, decide_eq_true_eq]; omega
  | directory =>
    rw [decide_eq_true_eq, Aperture.dirEntries]
    change _ ↔ ¬ (q.index.toNat < a.pages / 1024 ∨ q.index.toNat = 0)
    omega
  | aperture => simp
  | fence => exact absurd named kind

theorem InvCommand.coversPage_iff (q : InvCommand) (n : ApertureId) (page : Nat) (some' : q.kind = .range → q.count.toNat ≠ 0) :
    q.coversPage n page = true ↔ n = q.aperture ∧ match q.kind with
      | .page => page = q.firstPage.toNat
      | .range => q.firstPage.toNat ≤ page ∧ page ≤ q.firstPage.toNat + q.count.toNat - 1
      | .directory => page / 1024 = q.index.toNat
      | .aperture => True
      | .fence => False := by
  rw [InvCommand.coversPage, Bool.and_eq_true, decide_eq_true_eq]
  refine and_congr_right fun _ => ?_
  cases named : q.kind with
  | page => simp
  | range =>
    have := some' named
    simp only [Bool.and_eq_true, decide_eq_true_eq]
    omega
  | directory => simp
  | aperture => simp
  | fence => simp

theorem InvCommand.coversDir_iff (q : InvCommand) (n : ApertureId) (i : Nat) : q.coversDir n i = true ↔
    n = q.aperture ∧ (q.kind = .aperture ∨ q.kind = .directory ∧ i = q.index.toNat) := by
  rw [InvCommand.coversDir, Bool.and_eq_true, decide_eq_true_eq]
  refine and_congr_right fun _ => ?_
  cases q.kind <;> simp

/-- Settles O49: the head is judged against its aperture, and the rest of the queue is handled from there. -/
theorem invalidationsRemoveExactlyWhatTheyCover : Obligations.InvalidationsRemoveExactlyWhatTheyCover := by
  intro c q rest s high queue row a pages covered legal closed
  have named : q.kind ≠ .fence ∧ c = q.kind.row := by
    obtain ⟨rfl, kind⟩ | ⟨rfl, kind⟩ | ⟨rfl, kind⟩ | ⟨rfl, kind⟩ := row <;> rw [kind] <;> exact ⟨by decide, rfl⟩
  obtain ⟨kind, rfl⟩ := named
  refine ⟨fun waits => exec_row_of_waiting high waits _, fun idle => ?_⟩
  let u : State := { s with invQueue := rest }
  refine ⟨judgeInv q u, ?_, fun shut => judgeInv_of_closed (s := u) shut, fun live bad => ?_, fun live good => ?_⟩
  · have same : (judgeInv q u).invQueue = rest := by simp [u]
    have handled := handledFrom_handleHead (u := judgeInv q u) (by simpa [u] using high) (by simpa [u] using idle)
    rw [same] at handled
    rwa [exec_row_of_head high queue idle, handleHead_of_invalidation rest kind]
  · have malformed : q.malformed (u.aperture q.aperture) = true := (InvCommand.malformed_iff live kind).2 bad
    rw [judgeInv_of_live (s := u) live, malformed]
    rfl
  · have formed : q.malformed (u.aperture q.aperture) = false :=
      Bool.eq_false_iff.2 fun malformed => (InvCommand.malformed_iff live kind).1 malformed good
    have covers (n : ApertureId) (page : Nat) : q.coversPage n page = true ↔ covered n page :=
      q.coversPage_iff n page fun range => by
        simp only [legal, range] at good
        exact good.1
    have judged : judgeInv q u = executeInv q u := by
      rw [judgeInv_of_live (s := u) live, formed]
      rfl
    rw [judged]
    refine ⟨fun e => ?_, List.filter_sublist, fun e => ?_, List.filter_sublist, fun d => ?_, rfl⟩
    · rw [← covers]
      simp [executeInv, u]
    · rw [← q.coversDir_iff]
      simp [executeInv, u]
    · rw [executeInv_context]
      refine ⟨fun idle => by rw [show u.context d = none from idle]; rfl, fun w walks => ?_⟩
      rw [show u.context d = some w from walks, ← covers, Option.map_some, InvCommand.markStale]
      exact ⟨fun hit => by rw [if_pos hit], fun miss => by rw [if_neg miss]⟩

/-! ## Fences (R145, R148) -/

theorem fenceTest_of_due {s : State} {q : InvCommand} {rest : List InvCommand} (queue : s.invQueue = q :: rest)
    (waits : s.fenceWaiting = true) (zero : s.fenceCounter = 0) :
    fenceTest s = handleHead rest (s.fenceCompleted q rest) := by
  rw [← completeFence_eq zero, fenceTest]
  simp [queue, waits, zero]

theorem fenceTest_of_not_due {s : State} (early : s.fenceWaiting = false ∨ s.fenceCounter ≠ 0) : fenceTest s = s := by
  unfold fenceTest
  split
  · rfl
  · rw [if_neg]
    simpa [imp_iff_not_or] using early

/-- The commands behind a fence that has completed are handled in the same event. -/
theorem handledFrom_fenceCompleted {s : State} (high : s.resetLow = false) (q : InvCommand) (rest : List InvCommand) :
    HandledFrom (.next (handleHead rest (s.fenceCompleted q rest))) (s.fenceCompleted q rest) :=
  handledFrom_handleHead (u := s.fenceCompleted q rest) high rfl

theorem IssueQueues.mark_writes (q : IssueQueues) : q.mark.writes =
    q.writes.map fun e => { e with counted := if e.state = .untranslated then e.counted else true } := by
  refine List.map_congr_left fun e _ => ?_
  by_cases hole : e.state = .untranslated
  · simp only [WriteEntry.isItem, hole, bne_self_eq_false, Bool.false_eq_true, if_false, if_true]
    rw [← hole]
  · simp [WriteEntry.isItem, hole]

/-- Settles O51: the fence as the head, with items or with none, and the completion of the waiting one. -/
theorem fencesMarkCountAndComplete : Obligations.FencesMarkCountAndComplete := by
  intro q rest s high queue items
  refine ⟨fun kind waits => exec_row_of_waiting high waits .fence, fun kind idle => ?_, fun waits zero => ?_, fun early => ?_⟩
  · have row : exec .fence s = .next (handleHead (q :: rest) s) := by
      have := exec_row_of_head high queue idle
      rwa [kind] at this
    have started : startFence { s with invQueue := q :: rest } = startFence s := by rw [← queue]
    have starts : handleHead (q :: rest) s =
        if items = 0 then handleHead rest (completeFence q rest (startFence s)) else startFence s := by
      rw [handleHead, if_pos kind, started]
      rfl
    have marks (m : Master) : ((startFence s).queue m).reads = (s.queue m).reads.map (fun e => { e with counted := true }) ∧
        ((startFence s).queue m).writes = (s.queue m).writes.map
          (fun e => { e with counted := if e.state = .untranslated then e.counted else true }) := by
      rw [show (startFence s).queue m = (s.queue m).mark from markItems_queue s m]
      exact ⟨rfl, (s.queue m).mark_writes⟩
    have flight : (startFence s).inFlight = s.inFlight.map (fun x => match x with
        | .read i => .read { i with counted := true }
        | .write i => .write { i with counted := true }
        | .walk d n p => .walk d n p
        | .discarded => .discarded) := List.map_congr_left fun x _ => by cases x <;> rfl
    by_cases none : items = 0
    · rw [if_pos none, completeFence_eq (s := startFence s) none] at starts
      refine ⟨(startFence s).fenceCompleted q rest, marks, flight, fun some' => absurd none some', fun _ => ⟨?_, rfl⟩⟩
      rw [row, starts]
      exact handledFrom_fenceCompleted (s := startFence s) high q rest
    · rw [if_neg none] at starts
      exact ⟨startFence s, marks, flight, fun _ => ⟨row.trans (congrArg _ starts), startFence_markedCount s, rfl⟩,
        fun zero => absurd zero none⟩
  · dsimp only [exec, execFenceCompletion]
    rw [whenReleased_of_high high, fenceTest_of_due queue waits zero]
    exact handledFrom_fenceCompleted high q rest
  · dsimp only [exec, execFenceCompletion]
    rw [whenReleased_of_high high, fenceTest_of_not_due early]

end Sys2Proof.Machine

/-! PROOFS. The issue arbiter in the words of the statements: candidates, the walker's claim, the round of the masters (sections
6.4 and 7.2). -/

namespace Sys2Proof.Machine

/-! ## Candidates (R114 to R116) -/

theorem IssueQueues.eligibleRead_eq_none (q : IssueQueues) :
    q.eligibleRead = none ↔ ∀ e ∈ q.reads, ¬ q.holds e = false := by
  rw [IssueQueues.eligibleRead, earliestRead_eq_none, List.filter_eq_nil_iff]
  simp

/-- The eligible read that a master offers, and that no other is earlier-taken. -/
theorem IssueQueues.eligibleRead_spec {q : IssueQueues} {e : ReadEntry} (some' : q.eligibleRead = some e) :
    (e ∈ q.reads ∧ q.holds e = false) ∧ ∀ f ∈ q.reads, q.holds f = false → e.arrival ≤ f.arrival := by
  obtain ⟨mem, least⟩ := earliestRead_spec _ e some'
  rw [List.mem_filter] at mem
  exact ⟨⟨mem.1, by simpa using mem.2⟩, fun f inside free => least f (List.mem_filter.2 ⟨inside, by simp [free]⟩)⟩

/-- Settles O38: the two eligible items of a master's queues, and the earlier-taken of them. -/
theorem candidatesRespectTheWriteOrderAndTheOverlapHold : Obligations.CandidatesRespectTheWriteOrderAndTheOverlapHold := by
  intro s m eligibleWrite eligibleRead
  have write (e : WriteEntry) : (s.queue m).eligibleWrite = some e ↔ eligibleWrite e :=
    (s.queue m).eligibleWrite_eq_some e
  have read (e : ReadEntry) : eligibleRead e ↔ e ∈ (s.queue m).reads ∧ (s.queue m).holds e = false :=
    and_congr_right fun _ => ((s.queue m).not_holds_iff e).symm
  have noRead : (s.queue m).eligibleRead = none ↔ ∀ e, ¬ eligibleRead e := by
    rw [IssueQueues.eligibleRead_eq_none]
    exact forall_congr' fun e => by rw [read, not_and]
  have noWrite : (s.queue m).eligibleWrite = none ↔ ∀ e, ¬ eligibleWrite e := by
    rw [Option.eq_none_iff_forall_ne_some]
    exact forall_congr' fun e => not_congr (write e)
  have only (e f : WriteEntry) (he : eligibleWrite e) (hf : eligibleWrite f) : e = f := by
    have same := ((write e).2 he).symm.trans ((write f).2 hf)
    exact Option.some.inj same
  refine ⟨?_, ?_, only⟩
  · rw [← noWrite, ← noRead, State.candidate]
    cases (s.queue m).eligibleRead with
    | none => cases (s.queue m).eligibleWrite <;> simp
    | some r =>
      cases (s.queue m).eligibleWrite with
      | none => simp
      | some w => simp only; split <;> simp
  · intro x offered
    rw [State.candidate] at offered
    cases reads : (s.queue m).eligibleRead with
    | none =>
      cases writes : (s.queue m).eligibleWrite with
      | none => simp [reads, writes] at offered
      | some w =>
        simp only [reads, writes, Option.some.injEq] at offered
        exact .inl ⟨w, offered.symm, (write w).1 writes, fun f eligible => absurd eligible (noRead.1 reads f)⟩
    | some r =>
      obtain ⟨mem, least⟩ := IssueQueues.eligibleRead_spec reads
      have earliest (f : ReadEntry) (eligible : eligibleRead f) : r.arrival ≤ f.arrival :=
        least f ((read f).1 eligible).1 ((read f).1 eligible).2
      cases writes : (s.queue m).eligibleWrite with
      | none =>
        simp only [reads, writes, Option.some.injEq] at offered
        exact .inr ⟨r, offered.symm, (read r).2 mem, earliest, fun f eligible => absurd eligible (noWrite.1 writes f)⟩
      | some w =>
        simp only [reads, writes] at offered
        split at offered <;> rename_i order <;> cases offered
        · refine .inr ⟨r, rfl, (read r).2 mem, earliest, fun f eligible => ?_⟩
          rwa [only f w eligible ((write w).1 writes)]
        · exact .inl ⟨w, rfl, (write w).1 writes, fun f eligible => (Nat.le_of_not_lt order).trans (earliest f eligible)⟩

/-! ## Grants (R125 to R128) -/

theorem exec_grant {s : State} (high : s.resetLow = false) : exec .grant s = .next (takeGrant s) := by
  dsimp only [exec, execGrant]
  exact whenReleased_of_high high _

theorem takeGrant_of_full {s : State} (full : 8 ≤ s.inFlight.length) : takeGrant s = s := by
  rw [takeGrant, if_neg (Nat.not_lt.2 full)]

/-- The context whose read became pending first claims the grant (R126). -/
theorem State.walkClaim_of_first {s : State} {c : ContextId} {w : Walk} {t : Nat} (walks : s.context c = some w)
    (pending : w.read = .pending t)
    (first : ∀ d v u, d ≠ c → s.context d = some v → v.read = .pending u → t < u) : s.walkClaim = some (.walk c) := by
  have own : s.readyTime c = some t := State.readyTime_eq_some.2 ⟨w, walks, pending⟩
  have later (d : ContextId) (ne : d ≠ c) (u : Nat) (ready : s.readyTime d = some u) : t < u := by
    obtain ⟨v, walks', pending'⟩ := State.readyTime_eq_some.1 ready
    exact first d v u ne walks' pending'
  rw [State.walkClaim]
  fin_cases c
  · have zero : s.readyTime 0 = some t := own
    cases one : s.readyTime 1 with
    | none => simp [zero]
    | some u => simp [zero, (later 1 (by decide) u one).le]
  · have one : s.readyTime 1 = some t := own
    cases zero : s.readyTime 0 with
    | none => simp [one]
    | some u => simp [one, Nat.not_le.2 (later 0 (by decide) u zero)]

theorem State.walkClaim_eq_none {s : State} (idle : ∀ c w t, s.context c = some w → w.read ≠ .pending t) :
    s.walkClaim = none := by
  have unready (c : ContextId) : s.readyTime c = none := by
    rw [Option.eq_none_iff_forall_ne_some]
    intro t ready
    obtain ⟨w, walks, pending⟩ := State.readyTime_eq_some.1 ready
    exact idle c w t walks pending
  rw [State.walkClaim, unready 0, unready 1]

/-- Settles O36: the walker's claim comes before the masters', and the one that is pending first before the other. -/
theorem grantsServeTheEarlierWalkReadFirst : Obligations.GrantsServeTheEarlierWalkReadFirst := by
  intro s high
  refine ⟨fun full => by rw [exec_grant high, takeGrant_of_full full], fun c w t0 room walks pending first => ?_⟩
  intro entry phys
  have chosen : s.chosen = some (.walk c) := by rw [State.chosen, State.walkClaim_of_first walks pending first]
  have address : w.entryAddress (s.aperture w.aperture) / 8 * 8 = entry - entry % 8 := by
    have same : w.entryAddress (s.aperture w.aperture) = entry := rfl
    omega
  have granted : takeGrant s = issue (.walk c w.aperture phys) (.read phys 1)
      (s.setContext c (some { w with read := .issued })) := by
    rw [takeGrant, if_pos room, chosen]
    simp only [grantWalk, walks, address]
    rfl
  rw [exec_grant high, granted]
  exact ⟨_, rfl, fun d => s.context_setContext c d _, rfl⟩

/-- Where a master stands in the turn order (R127). -/
theorem turnOrder_split : ∀ (p : Master) (k : Fin 6),
    (∀ o ∈ (turnOrder p).take k, ∃ j : Fin 6, j < k ∧ o.val = (p.val + (j.val + 1)) % 6) ∧
    ∀ m : Master, m.val = (p.val + (k.val + 1)) % 6 → turnOrder p = (turnOrder p).take k ++ m :: (turnOrder p).drop (k + 1) := by
  decide

/-- The first master after the pointer that offers a candidate is the one chosen (R127). -/
theorem State.chosen_of_first {s : State} {m : Master} {i : Nat} {x : Claim}
    (idle : ∀ c w t, s.context c = some w → w.read ≠ .pending t) (low : 1 ≤ i) (high : i ≤ 6)
    (turn : m.val = (s.rrPointer.val + i) % 6)
    (before : ∀ (o : Master) (j : Nat), 1 ≤ j → j < i → o.val = (s.rrPointer.val + j) % 6 → s.candidate o = none)
    (offers : s.candidate m = some x) : s.chosen = some x := by
  obtain ⟨earlier, split⟩ := turnOrder_split s.rrPointer ⟨i - 1, by omega⟩
  have skipped : ((turnOrder s.rrPointer).take (i - 1)).findSome? s.candidate = none :=
    List.findSome?_eq_none_iff.2 fun o mem => by
      obtain ⟨j, first, place⟩ := earlier o mem
      exact before o (j.val + 1) (by omega) (by have : j.val < i - 1 := first; omega) place
  rw [State.chosen, State.walkClaim_eq_none idle]
  simp only
  rw [split m (by simpa [Nat.sub_add_cancel low] using turn), List.findSome?_append, skipped]
  simp [offers]

theorem WriteEntry.phys_of_translated {e : WriteEntry} {p : PhysAddr} (state : e.state = .translated p) : e.phys = p := by
  simp [WriteEntry.phys, state]

/-- The eligible write is the first entry that is not Issued; it becomes Issued in its place (R114). -/
theorem IssueQueues.issued_writes {q : IssueQueues} {e : WriteEntry} {p : PhysAddr} (eligible : q.eligibleWrite = some e)
    (state : e.state = .translated p) : updateFirst (!·.isIssued) WriteEntry.issue q.writes =
      q.writes.takeWhile (·.isIssued) ++ ({ e with state := .issued p } :: (q.writes.dropWhile (·.isIssued)).tail) := by
  obtain ⟨-, front, back, split, ahead⟩ := (q.eligibleWrite_eq_some e).1 eligible
  have issued : ∀ y ∈ front, y.isIssued = true := fun y mem => (WriteEntry.isIssued_iff y).2 (ahead y mem)
  have own : e.isIssued = false := by simp [WriteEntry.isIssued, state]
  have becomes : e.issue = { e with state := .issued p } := by simp [WriteEntry.issue, state]
  rw [split, updateFirst_of_split (fun y mem => by simpa using issued y mem) (by simp [own]), becomes,
    List.takeWhile_append_of_pos issued, List.dropWhile_append_of_pos issued]
  simp [own]

/-- Settles O37: the first candidate in the turn order, as a read or as a write. -/
theorem grantsGoRoundTheMasters : Obligations.GrantsGoRoundTheMasters := by
  intro s high idle
  refine ⟨fun silent => ?_, fun m i room low top turn before => ?_⟩
  · have unchosen : s.chosen = none := by
      rw [State.chosen, State.walkClaim_eq_none idle]
      exact List.findSome?_eq_none_iff.2 fun o _ => silent o
    rw [exec_grant high, takeGrant, unchosen]
    simp
  · have granted {x : Claim} (offers : s.candidate m = some x) := State.chosen_of_first idle low top turn before offers
    refine ⟨fun e offers => ?_, fun e p offers state => ?_⟩
    · rw [exec_grant high, takeGrant, if_pos room, granted offers]
      rfl
    · obtain ⟨f, claim, -⟩ | ⟨f, claim, eligible⟩ := State.candidate_eq_some offers
      · cases claim
      cases claim
      rw [exec_grant high, takeGrant, if_pos room, granted offers]
      simp only [grantWrite, WriteEntry.phys_of_translated state, IssueQueues.issued_writes eligible state]
      rfl

end Sys2Proof.Machine

/-! PROOFS. Memory completions of the masters' accesses in the words of the statements (sections 6.5, 7.3, 2.6). -/

namespace Sys2Proof.Machine

/-! ## Retirements beside a Port Reset and a waiting fence -/

/-- Which drains end looks at the descriptors and the walk contexts alone. -/
theorem State.retiredCauses_congr {s t : State} (apertures : t.apertures = s.apertures) (contexts : t.contexts = s.contexts)
    (k : ApertureId → Nat) (v : BitVec 10) : t.retiredCauses k v = s.retiredCauses k v := by
  have ends (n : ApertureId) (j : Nat) : t.drainEnds n j = s.drainEnds n j := by
    rw [State.drainEnds_eq, State.drainEnds_eq, State.walkBusyFor_congr contexts, State.aperture, State.aperture, apertures]
  simp only [State.retiredCauses, ends]

theorem State.retiredCauses_or (s : State) (k : ApertureId → Nat) (v x : BitVec 10) :
    s.retiredCauses k v ||| x = s.retiredCauses k (v ||| x) := by
  unfold State.retiredCauses
  split
  · rw [BitVec.or_assoc, BitVec.or_comm _ x, BitVec.or_assoc]
  · rfl

/-- Counted items retire without completing a fence: no fence waits, or the counter stays above 0. -/
theorem lowerFence_of_left {s : State} {k : Nat} (left : k ≠ 0 → s.fenceWaiting = true → k < s.fenceCounter) :
    lowerFence k s = { s with fenceCounter := s.fenceCounter - k } := by
  unfold lowerFence
  split
  · rename_i none
    rw [none]
    rfl
  · rename_i some'
    refine fenceTest_of_not_due (s := { s with fenceCounter := s.fenceCounter - k }) ?_
    by_cases waits : s.fenceWaiting = true
    · exact .inr (Nat.sub_ne_zero_of_lt (left some' waits))
    · exact .inl (by simpa using waits)

theorem portResetTest_of_not_due {m : Master} {s : State} (early : (s.port m).state = .resetting → s.hasAccess m = true) :
    portResetTest m s = s := by
  rw [portResetTest, if_neg]
  simpa using early

theorem portResetTest_of_due {m : Master} {s : State} (resetting : (s.port m).state = .resetting) (none : s.hasAccess m = false) :
    portResetTest m s = endPortReset m s := by
  rw [portResetTest, if_pos (by simp [resetting, none])]

/-- No access of a master is left in the in-flight list. -/
theorem State.hasAccess_eq_false {s : State} {m : Master} : s.hasAccess m = false ↔
    ∀ y ∈ s.inFlight, ∀ i, y = .read i ∨ y = .write i → i.master ≠ m := by
  rw [State.hasAccess, List.any_eq_false]
  refine forall₂_congr fun y _ => ?_
  cases y <;> simp [AccessRecord.item]

theorem if_one_zero_sub (b : Bool) (n : Nat) : n - (if b then 1 else 0) = if b then n - 1 else n := by
  cases b <;> rfl

/-- What is left of the state `v` where `k n` requests of each aperture `n` retire, `c` counted items with them, none of which
completes a fence, and the Port Reset of `m` then ends if it can (R44, R134). -/
structure Settled (m : Master) (k : ApertureId → Nat) (c : Nat) (v t : State) : Prop where
  retired : Retired k v t
  others : ∀ o, o ≠ m → t.port o = v.port o
  stays : ((v.port m).state = .resetting → v.hasAccess m = true) →
    t.causes = v.retiredCauses k v.causes ∧ t.port m = v.port m
  ends : (v.port m).state = .resetting → v.hasAccess m = false →
    t.causes = v.retiredCauses k (v.causes ||| 0x200) ∧ (∀ g, (t.port m).tag g = none) ∧
    t.port m = { v.port m with
      tags := (t.port m).tags, state := if (v.port m).enable then .active else .disabled }
  same : t = { v with
    ports := t.ports, apertures := t.apertures, pageCache := t.pageCache, dirCache := t.dirCache, causes := t.causes
    fenceCounter := v.fenceCounter - c }

/-- The end of a Port Reset is tested in a state `u` that is `v` after its retirements. -/
theorem settled_portResetTest {m : Master} {k : ApertureId → Nat} {c : Nat} {v u : State} (retired : Retired k v u)
    (causes : u.causes = v.retiredCauses k v.causes)
    (same : ∃ a p d x, u = { v with
      apertures := a, pageCache := p, dirCache := d, causes := x, fenceCounter := v.fenceCounter - c }) :
    Settled m k c v (portResetTest m u) := by
  obtain ⟨a, p, d, x, rfl⟩ := same
  by_cases due : (v.port m).state = .resetting ∧ v.hasAccess m = false
  · obtain ⟨resetting, none⟩ := due
    rw [portResetTest_of_due (s := { v with
      apertures := a, pageCache := p, dirCache := d, causes := x, fenceCounter := v.fenceCounter - c }) resetting none]
    have port (o : Master) := endPortReset_port m { v with
      apertures := a, pageCache := p, dirCache := d, causes := x, fenceCounter := v.fenceCounter - c } o
    refine ⟨retired.congr rfl rfl rfl rfl rfl rfl rfl, fun o other => (port o).trans (if_neg other),
      fun early => absurd (early resetting) (by simp [none]), fun _ _ => ⟨?_, fun g => ?_, ?_⟩, rfl⟩
    · exact (congrArg (· ||| 0x200#10) causes).trans (v.retiredCauses_or k _ _)
    · exact (congrArg (Port.tag · g) ((port m).trans (if_pos rfl))).trans (replicate_tag g)
    · rw [port, if_pos rfl]
      rfl
  · have early (resetting : (v.port m).state = .resetting) : v.hasAccess m = true :=
      Bool.eq_true_of_not_eq_false fun none => due ⟨resetting, none⟩
    rw [portResetTest_of_not_due (s := { v with
      apertures := a, pageCache := p, dirCache := d, causes := x, fenceCounter := v.fenceCounter - c }) early]
    exact ⟨retired, fun _ _ => rfl, fun _ => ⟨causes, rfl⟩, fun resetting none => absurd ⟨resetting, none⟩ due, rfl⟩

/-- A retirement changes the descriptors, the caches and the causes. -/
theorem retire_same (n : ApertureId) (v : State) : ∃ a p d x, retire n v = { v with
    apertures := a, pageCache := p, dirCache := d, causes := x } := by
  rw [retire_eq]
  split
  · exact ⟨_, _, _, _, rfl⟩
  · exact ⟨_, _, _, _, rfl⟩

theorem foldl_retire_same (l : List ApertureId) (v : State) : ∃ a p d x, l.foldl (fun t n => retire n t) v = { v with
    apertures := a, pageCache := p, dirCache := d, causes := x } := by
  induction l generalizing v with
  | nil => exact ⟨_, _, _, _, rfl⟩
  | cons n l ih =>
    obtain ⟨a, p, d, x, first⟩ := retire_same n v
    obtain ⟨a', p', d', x', then'⟩ := ih (retire n v)
    exact ⟨a', p', d', x', then'.trans (by rw [first])⟩

/-- Requests retire, counted items with them, and the Port Reset of `m` ends if it can. -/
theorem settled_retirements {m : Master} {k : ApertureId → Nat} {c : Nat} {v w : State} (retired : Retired k v w)
    (causes : w.causes = v.retiredCauses k v.causes)
    (same : ∃ a p d x, w = { v with apertures := a, pageCache := p, dirCache := d, causes := x })
    (left : c ≠ 0 → v.fenceWaiting = true → c < v.fenceCounter) :
    Settled m k c v (portResetTest m (lowerFence c w)) := by
  obtain ⟨a, p, d, x, rfl⟩ := same
  rw [lowerFence_of_left (s := { v with apertures := a, pageCache := p, dirCache := d, causes := x }) left]
  exact settled_portResetTest (retired.congr rfl rfl rfl rfl rfl rfl rfl) causes ⟨a, p, d, x, rfl⟩

theorem settled_retireRecord {x : ItemRecord} {v : State} (left : x.counted = true → v.fenceWaiting = true → 2 ≤ v.fenceCounter) :
    Settled x.master (fun n => if n = x.aperture then 1 else 0) (if x.counted then 1 else 0) v (retireRecord x v) := by
  obtain ⟨retired, causes⟩ := retire_retired x.aperture v
  refine settled_retirements retired causes (retire_same x.aperture v) fun some' waits => ?_
  cases counted : x.counted with
  | false => simp [counted] at some'
  | true => exact left counted waits

/-! ## The completion of an item's record (R132 to R135) -/

/-- What a memory completion leaves of the state `s`: `x`'s item has received the completions `cs` where its port is live, the
report has left the log of `u`, and the item has retired. -/
structure ItemDone (x : ItemRecord) (rest : List AccessRecord) (cs : List Completion) (queues : Vector IssueQueues 6)
    (s u t : State) : Prop where
  live : (s.port x.master).state ≠ .resetting →
    t.causes = s.retiredCauses (fun n => if n = x.aperture then 1 else 0) u.causes ∧
    t.port x.master = { s.port x.master with completions := (s.port x.master).completions ++ cs }
  stays : (s.port x.master).state = .resetting →
    (¬ ∀ y ∈ rest, ∀ i, y = .read i ∨ y = .write i → i.master ≠ x.master) →
    t.causes = s.retiredCauses (fun n => if n = x.aperture then 1 else 0) u.causes ∧ t.port x.master = s.port x.master
  ends : (s.port x.master).state = .resetting →
    (∀ y ∈ rest, ∀ i, y = .read i ∨ y = .write i → i.master ≠ x.master) →
    t.causes = s.retiredCauses (fun n => if n = x.aperture then 1 else 0) (u.causes ||| 0x200) ∧
    (∀ g, (t.port x.master).tag g = none) ∧
    t.port x.master = { s.port x.master with
      tags := (t.port x.master).tags, state := if (s.port x.master).enable then .active else .disabled }
  others : ∀ o, o ≠ x.master → t.port o = s.port o
  retired : Retired (fun n => if n = x.aperture then 1 else 0) s t
  same : t = { s with
    inFlight := rest, ports := t.ports, queues := queues, apertures := t.apertures, pageCache := t.pageCache
    dirCache := t.dirCache, log := u.log, overflow := u.overflow, causes := t.causes
    fenceCounter := if x.counted then s.fenceCounter - 1 else s.fenceCounter }

theorem ItemDone.queues {x : ItemRecord} {rest : List AccessRecord} {cs : List Completion} {queues : Vector IssueQueues 6}
    {s u t : State} (item : ItemDone x rest cs queues s u t) : t.queues = queues := congrArg State.queues item.same

theorem ItemDone.frame {x : ItemRecord} {rest : List AccessRecord} {cs : List Completion} {queues : Vector IssueQueues 6}
    {s u t : State} (item : ItemDone x rest cs queues s u t) : t = { s with
      inFlight := rest, ports := t.ports, queues := t.queues, apertures := t.apertures, pageCache := t.pageCache
      dirCache := t.dirCache, log := u.log, overflow := u.overflow, causes := t.causes
      fenceCounter := if x.counted then s.fenceCounter - 1 else s.fenceCounter } := by
  rw [item.queues]
  exact item.same

/-- The item of a record retires in the state `v` that its completion and its report have left. -/
theorem itemDone_retireRecord {x : ItemRecord} {rest : List AccessRecord} {cs : List Completion}
    {queues : Vector IssueQueues 6} {s u v : State}
    (left : x.counted = true → s.fenceWaiting = true → 2 ≤ s.fenceCounter)
    (same : ∃ ports, v = { s with
      inFlight := rest, queues := queues, ports := ports, log := u.log, overflow := u.overflow, causes := u.causes })
    (port : ∀ o, v.port o = if o = x.master ∧ (s.port x.master).state ≠ .resetting then
      { s.port x.master with completions := (s.port x.master).completions ++ cs } else s.port o) :
    ItemDone x rest cs queues s u (retireRecord x v) := by
  obtain ⟨ports, rfl⟩ := same
  have settled := settled_retireRecord (x := x) (v := { s with
    inFlight := rest, queues := queues, ports := ports, log := u.log, overflow := u.overflow, causes := u.causes }) left
  obtain ⟨retired, others, stays, ends, same⟩ := settled
  have causes (k : ApertureId → Nat) (y : BitVec 10) := State.retiredCauses_congr (s := s) (t := { s with
    inFlight := rest, queues := queues, ports := ports, log := u.log, overflow := u.overflow, causes := u.causes }) rfl rfl k y
  rw [causes] at stays ends
  have own := port x.master
  refine ⟨fun live => ?_, fun resetting more => ?_, fun resetting last => ?_, fun o other => ?_,
    retired.congr rfl rfl rfl rfl rfl rfl rfl, ?_⟩
  · rw [if_pos ⟨rfl, live⟩] at own
    obtain ⟨set, kept⟩ := stays fun resetting => absurd (by rw [own] at resetting; exact resetting) live
    exact ⟨set, kept.trans own⟩
  · rw [if_neg fun h => h.2 resetting] at own
    obtain ⟨set, kept⟩ := stays fun _ => Bool.eq_true_of_not_eq_false (mt State.hasAccess_eq_false.1 more)
    exact ⟨set, kept.trans own⟩
  · rw [if_neg fun h => h.2 resetting] at own
    have ended := ends (by rw [own]; exact resetting) (State.hasAccess_eq_false.2 last)
    rw [own] at ended
    exact ended
  · exact (others o other).trans ((port o).trans (if_neg fun h => other h.1))
  · rw [if_one_zero_sub] at same
    exact same

/-- The report of an Error leaves the log, the overflow flag and the causes of the report made before the record left. -/
theorem report_of_record (y : FaultRecord) (s : State) (rest : List AccessRecord) (queues : Vector IssueQueues 6) :
    report y { s with inFlight := rest, queues := queues } = { s with
      inFlight := rest, queues := queues, log := (report y s).log, overflow := (report y s).overflow
      causes := (report y s).causes } := by
  obtain ⟨log, overflow, causes⟩ := report_congr y (s := s) (t := { s with inFlight := rest, queues := queues }) rfl rfl rfl
  rw [report_eq, log, overflow, causes]

theorem pushCompletion_same (m : Master) (c : Completion) (s : State) : ∃ ports, pushCompletion m c s = { s with ports := ports } := by
  by_cases resetting : (s.port m).state = .resetting
  · exact ⟨s.ports, pushCompletion_of_resetting resetting c⟩
  · exact ⟨_, pushCompletion_of_live resetting c⟩

/-- The item of a record retires after its one completion. -/
theorem itemDone_of_completion {x : ItemRecord} {rest : List AccessRecord} {queues : Vector IssueQueues 6} {s u v : State}
    (left : x.counted = true → s.fenceWaiting = true → 2 ≤ s.fenceCounter) (c : Completion)
    (given : v = pushCompletion x.master c { s with
      inFlight := rest, queues := queues, log := u.log, overflow := u.overflow, causes := u.causes }) :
    ItemDone x rest [c] queues s u (retireRecord x v) := by
  subst given
  refine itemDone_retireRecord left ?_ fun o => pushCompletion_port x.master c { s with
    inFlight := rest, queues := queues, log := u.log, overflow := u.overflow, causes := u.causes } o
  obtain ⟨ports, same⟩ := pushCompletion_same x.master c { s with
    inFlight := rest, queues := queues, log := u.log, overflow := u.overflow, causes := u.causes }
  exact ⟨ports, same⟩

/-- Settles O39: the discarded record, and the retirement after the completion and the report. -/
theorem readCompletionsDeliverOrAreDiscarded : Obligations.ReadCompletionsDeliverOrAreDiscarded := by
  intro s rest r high
  refine ⟨fun oldest => exec_memoryCompletion high oldest r, fun x oldest left => ?_⟩
  intro resetting last retiring
  have done := exec_memoryCompletion high oldest r
  cases r with
  | okay beats =>
    obtain ⟨live, stays, ends, others, retired, same⟩ := itemDone_of_completion (u := s) (rest := rest) (queues := s.queues) left
      ⟨x.tag, .okayRead (beats.toList.take x.length)⟩ rfl
    exact ⟨_, s, done, rfl, live, stays, ends, others, retired, same⟩
  | error =>
    let y : FaultRecord := ⟨.memoryError, x.master, x.tag, some x.aperture, .read, x.address,
      some (BitVec.ofNat 24 (x.phys.toNat / 4096)), 1⟩
    have given : readDone x .error { s with inFlight := rest } = pushCompletion x.master ⟨x.tag, .memoryError⟩
        { s with inFlight := rest, log := (report y s).log, overflow := (report y s).overflow, causes := (report y s).causes } :=
      (report_pushCompletion y x.master _ _).trans (congrArg (pushCompletion x.master _) (report_of_record y s rest s.queues))
    obtain ⟨live, stays, ends, others, retired, same⟩ := itemDone_of_completion (u := report y s) (queues := s.queues) left
      ⟨x.tag, .memoryError⟩ given
    exact ⟨_, report y s, done, rfl, live, stays, ends, others, retired, same⟩

/-! ## The completion of a Write record (R119, R120, R133 to R135) -/

/-- The cases of a Write record's completion, its entry being the Issued head of its master's queue. -/
theorem writeDone_of_issued {x : ItemRecord} {e : WriteEntry} {es : List WriteEntry} {s : State}
    (head : (s.queue x.master).writes = e :: es) (issued : e.isIssued = true) (r : BusResult) : writeDone x r s =
      match r, e.posted with
      | .okay _, false => pushCompletion x.master ⟨e.tag, .okayWrite⟩ (s.setQueue x.master { s.queue x.master with writes := es })
      | .okay _, true => s.setQueue x.master { s.queue x.master with writes := es }
      | .error, false => reportMemory .memoryError .write x
          (pushCompletion x.master ⟨e.tag, .memoryError⟩ (s.setQueue x.master { s.queue x.master with writes := es }))
      | .error, true => reportMemory (if (s.port x.master).state = .resetting then .memoryError else .postedWriteLost) .write x
          (s.setQueue x.master { s.queue x.master with writes := es }) := by
  cases r with
  | okay beats => cases posted : e.posted <;> simp only [writeDone, head, issued, posted, if_true]
  | error => cases posted : e.posted <;> simp only [writeDone, head, issued, posted, if_true]

/-- The item of a posted write retires: no completion is given. -/
theorem itemDone_of_posted {x : ItemRecord} {rest : List AccessRecord} {queues : Vector IssueQueues 6} {s u v : State}
    (left : x.counted = true → s.fenceWaiting = true → 2 ≤ s.fenceCounter)
    (given : v = { s with
      inFlight := rest, queues := queues, log := u.log, overflow := u.overflow, causes := u.causes }) :
    ItemDone x rest [] queues s u (retireRecord x v) := by
  subst given
  refine itemDone_retireRecord left ⟨s.ports, rfl⟩ fun o => ?_
  split
  · rename_i own
    rw [own.1, List.append_nil]
    rfl
  · rfl

/-- Settles O40: the four cases of the result and the posting, then the retirement. -/
theorem writeCompletionsFollowThePosting : Obligations.WriteCompletionsFollowThePosting := by
  intro s x rest e es r high oldest left head issued resetting last retiring logged
  let queues : Vector IssueQueues 6 := s.queues.set x.master { s.queue x.master with writes := es }
  have done := (exec_memoryCompletion high oldest r).trans (congrArg (fun v => Host.Outcome.next (retireRecord x v))
    (writeDone_of_issued (s := { s with inFlight := rest }) head issued r))
  have moved {cs : List Completion} {u t : State} (item : ItemDone x rest cs queues s u t) (o : Master) :
      t.queue o = if o = x.master then { s.queue o with writes := es } else s.queue o := by
    have queue : t.queue o = { s with queues := queues }.queue o := congrArg (fun q : Vector IssueQueues 6 => q[o]) item.queues
    refine (queue.trans (s.queue_setQueue x.master o _)).trans ?_
    split
    · rename_i own
      rw [own]
    · rfl
  have reported (kind : FaultKind) := report_of_record ⟨kind, x.master, x.tag, some x.aperture, .write, x.address,
    some (BitVec.ofNat 24 (x.phys.toNat / 4096)), 1⟩ s rest queues
  cases r with
  | okay beats =>
    cases posted : e.posted with
    | false =>
      rw [posted] at done
      have item := itemDone_of_completion (u := s) (rest := rest) (queues := queues) left ⟨e.tag, .okayWrite⟩ rfl
      exact ⟨_, s, done, fun _ _ => rfl, nofun, nofun, item.live, item.stays, item.ends, item.others, moved item, item.retired,
        item.frame⟩
    | true =>
      rw [posted] at done
      have item := itemDone_of_posted (u := s) (rest := rest) (queues := queues) left rfl
      exact ⟨_, s, done, fun _ _ => rfl, nofun, nofun, item.live, item.stays, item.ends, item.others, moved item, item.retired,
        item.frame⟩
  | error =>
    cases posted : e.posted with
    | false =>
      rw [posted] at done
      have item := itemDone_of_completion (u := logged .memoryError) (rest := rest) (queues := queues) left
        ⟨e.tag, .memoryError⟩ ((report_pushCompletion _ x.master _ _).trans (congrArg (pushCompletion x.master _) (reported _)))
      exact ⟨_, logged .memoryError, done, nofun, fun _ _ => rfl, fun _ p => absurd p (by simp), item.live, item.stays,
        item.ends, item.others, moved item, item.retired, item.frame⟩
    | true =>
      rw [posted] at done
      let kind : FaultKind := if (s.port x.master).state = .resetting then .memoryError else .postedWriteLost
      have item := itemDone_of_posted (u := logged kind) (rest := rest) (queues := queues) left (reported kind)
      refine ⟨_, logged kind, done, nofun, fun _ why => ?_, fun _ _ live => ?_, item.live, item.stays, item.ends,
        item.others, moved item, item.retired, item.frame⟩
      · have resets : (s.port x.master).state = .resetting := why.resolve_left (by simp)
        exact congrArg logged (if_pos resets)
      · exact congrArg logged (if_neg live)

end Sys2Proof.Machine

/-! PROOFS. The Port Reset command in the words of the statements (section 2.6). -/

namespace Sys2Proof.Machine

theorem exec_portReset {s : State} (high : s.resetLow = false) (m : Master) (enable : Bool) :
    exec (.portReset m enable) s = .next (resetPort m (storeEnable m enable s)) := by
  dsimp only [exec, execPortReset]
  rw [whenReleased_of_high high]

theorem count_map_filter {α : Type} (l : List α) (p : α → Bool) (f : α → ApertureId) (n : ApertureId) :
    ((l.filter p).map f).count n = l.countP fun x => p x = true ∧ f x = n := by
  rw [List.count, List.countP_map, List.countP_filter]
  refine List.countP_congr fun x _ => ?_
  simp [and_comm]

/-- The requests of each aperture that a Port Reset removes (R41, R121). -/
theorem State.count_sweptApertures (s : State) (m : Master) (n : ApertureId) : (s.sweptApertures m).count n =
    s.park.countP (fun k => k.master = m ∧ k.aperture = n) + (s.queue m).reads.countP (fun e => e.aperture = n) +
      (s.queue m).writes.countP (fun e => e.isTranslated ∧ e.aperture = n) := by
  have reads : ((s.queue m).reads.map (·.aperture)).count n = (s.queue m).reads.countP fun e => e.aperture = n := by
    rw [List.count, List.countP_map]
    rfl
  have parked := count_map_filter s.park (·.master = m) (·.aperture) n
  have writes := count_map_filter (s.queue m).writes (·.isTranslated) (·.aperture) n
  rw [State.sweptApertures, List.count_append, List.count_append, parked, reads, writes]
  simp only [decide_eq_true_eq]
  omega

theorem State.sweptCounted_eq (s : State) (m : Master) : s.sweptCounted m =
    (s.queue m).reads.countP (fun e => e.counted) + (s.queue m).writes.countP (fun e => e.isTranslated ∧ e.counted) := by
  rw [State.sweptCounted, Nat.add_comm]
  congr 1
  exact List.countP_congr fun e _ => by simp

/-- A Port Reset of a port that is not Resetting (R41, R44, R45). -/
theorem resetPort_of_live {m : Master} {s : State} (live : (s.port m).state ≠ .resetting) : resetPort m s =
    portResetTest m (lowerFence (s.sweptCounted m)
      ((s.sweptApertures m).foldl (fun t n => retire n t) (sweep m (indicate m s)))) := by
  rw [resetPort, if_neg live]

theorem settled_resetPort {m : Master} {s : State} (live : (s.port m).state ≠ .resetting)
    (left : s.fenceWaiting = true → s.sweptCounted m < s.fenceCounter) :
    Settled m (fun n => (s.sweptApertures m).count n) (s.sweptCounted m) (sweep m (indicate m s)) (resetPort m s) := by
  obtain ⟨retired, causes⟩ := foldl_retire_retired (s.sweptApertures m) (sweep m (indicate m s))
  rw [resetPort_of_live live]
  exact settled_retirements retired causes (foldl_retire_same _ _) fun _ => left

/-- Settles O35: the sweep, and the retirements that it makes. -/
theorem portResetSweepsTheMastersWork : Obligations.PortResetSweepsTheMastersWork := by
  intro m enable s high
  refine ⟨fun resetting => ?_, ?_⟩
  · have stored := storeEnable_port m enable s
    refine ⟨storeEnable m enable s, ?_, ?_, fun o other => (stored o).trans (if_neg other), rfl⟩
    · have still : ((storeEnable m enable s).port m).state = .resetting := by
        rw [stored, if_pos rfl]
        exact if_pos resetting
      rw [exec_portReset high, resetPort, if_pos still]
    · rw [stored, if_pos rfl, if_pos resetting, ← resetting]
  · intro counted live left
    let s0 := storeEnable m enable s
    let v := sweep m (indicate m s0)
    let t := resetPort m s0
    have done : exec (.portReset m enable) s = .next t := exec_portReset high m enable
    have stored (o : Master) := storeEnable_port m enable s o
    have live0 : (s0.port m).state ≠ .resetting := by
      rw [stored, if_pos rfl, if_neg live]
      cases enable <;> nofun
    have swept (o : Master) : v.port o = if o = m then
        { s.port m with enable := enable, completions := [], state := .resetting } else s.port o := by
      refine (sweep_port m o (indicate m s0)).trans ?_
      split
      · exact congrArg (fun p : Port => { p with completions := [], state := .resetting }) ((stored m).trans (if_pos rfl))
      · rename_i other
        exact (stored o).trans (if_neg other)
    have own := (swept m).trans (if_pos rfl)
    have queues (o : Master) : v.queue o =
        if o = m then { reads := [], writes := (s.queue m).writes.filter (·.isIssued) } else s.queue o :=
      sweep_queue m o (indicate m s0)
    have items : s0.sweptCounted m = counted := s.sweptCounted_eq m
    have settled : Settled m (fun n => (s.sweptApertures m).count n) counted v t := by
      rw [← items]
      exact settled_resetPort live0 (by rw [items]; exact left)
    simp only [State.count_sweptApertures] at settled
    obtain ⟨retired, others, stays, ends, same⟩ := settled
    have sameQueues : t.queues = v.queues := (congrArg State.queues same :)
    have samePark : t.park = s.park.filter (·.master ≠ m) :=
      (congrArg State.park same :).trans (List.filter_congr fun k _ => by by_cases own : k.master = m <;> simp [own])
    have queue (o : Master) : t.queue o = _ := (congrArg (fun q : Vector IssueQueues 6 => q[o]) sameQueues).trans (queues o)
    have access : v.hasAccess m = s.hasAccess m := rfl
    have causes (k : ApertureId → Nat) (y : BitVec 10) := State.retiredCauses_congr (s := s) (t := v) rfl rfl k y
    rw [access, causes] at stays ends
    have setDone (k : ApertureId → Nat) : (s.retiredCauses k (s.causes ||| 0x200)).getLsbD 9 = true := by
      rw [← State.retiredCauses_or]
      simp
    refine ⟨t, done, samePark, ?_, ?_, fun o other => ⟨?_, ?_⟩, ?_, fun some' => ?_, fun none => ?_, ⟨?_, ?_⟩, ?_, ?_⟩
    · rw [queue, if_pos rfl]
    · rw [queue, if_pos rfl]
    · exact (others o other).trans ((swept o).trans (if_neg other))
    · rw [queue, if_neg other]
    · cases some' : s.hasAccess m with
      | true =>
        rw [(stays fun _ => some').2, own]
      | false =>
        obtain ⟨-, -, port⟩ := ends (by rw [own]) some'
        rw [own] at port
        rw [port]
    · rw [(stays fun _ => some').2, own]
      exact ⟨rfl, rfl⟩
    · obtain ⟨set, free, port⟩ := ends (by rw [own]) none
      rw [own] at port
      refine ⟨by rw [port], free, ?_⟩
      rw [set]
      exact setDone _
    · exact retired.congr rfl rfl rfl rfl rfl rfl rfl
    · cases some' : s.hasAccess m with
      | true => exact (stays fun _ => some').1
      | false => exact (ends (by rw [own]) some').1
    · exact (congrArg State.fenceCounter same :)
    · have frame : t = { v with
          ports := t.ports, apertures := t.apertures, pageCache := t.pageCache, dirCache := t.dirCache, causes := t.causes
          fenceCounter := t.fenceCounter, queues := t.queues, park := t.park } := by
        rw [sameQueues, show t.park = v.park from (congrArg State.park same :),
          show t.fenceCounter = v.fenceCounter - counted from (congrArg State.fenceCounter same :)]
        exact same
      exact frame

end Sys2Proof.Machine

/-! PROOFS. The retirement that completes the waiting fence (R134, R147 to R149, R151). -/

namespace Sys2Proof.Machine

/-! ## Operations that a fence does not see -/

/-- An operation that neither reads nor writes the fence counter, and leaves the invalidation queue, the waiting fence, the
reset pin and FenceDone alone. -/
structure FenceBlind (f : State → State) : Prop where
  counter : ∀ s k, f { s with fenceCounter := k } = { f s with fenceCounter := k }
  queue : ∀ s, (f s).invQueue = s.invQueue
  waiting : ∀ s, (f s).fenceWaiting = s.fenceWaiting
  low : ∀ s, (f s).resetLow = s.resetLow
  cause : ∀ s, (f s).causes.getLsbD 2 = s.causes.getLsbD 2

theorem FenceBlind.comp {f g : State → State} (hf : FenceBlind f) (hg : FenceBlind g) : FenceBlind fun s => f (g s) where
  counter s k := by rw [hg.counter, hf.counter]
  queue s := (hf.queue _).trans (hg.queue s)
  waiting s := (hf.waiting _).trans (hg.waiting s)
  low s := (hf.low _).trans (hg.low s)
  cause s := (hf.cause _).trans (hg.cause s)

theorem FenceBlind.keeps_counter {f : State → State} (blind : FenceBlind f) (s : State) : (f s).fenceCounter = s.fenceCounter :=
  (congrArg State.fenceCounter (blind.counter s s.fenceCounter) :)

theorem fenceBlind_pushCompletion (m : Master) (c : Completion) : FenceBlind (pushCompletion m c) where
  counter s k := by
    by_cases resetting : (s.port m).state = .resetting
    · rw [pushCompletion_of_resetting resetting, pushCompletion_of_resetting (s := { s with fenceCounter := k }) resetting]
    · rw [pushCompletion_of_live resetting, pushCompletion_of_live (s := { s with fenceCounter := k }) resetting]
      rfl
  queue s := by simp
  waiting s := by simp
  low s := by simp
  cause s := by simp

theorem report_cause (r : FaultRecord) (s : State) :
    (report r s).causes = s.causes ||| 0x001 ∨ (report r s).causes = s.causes ||| 0x002 := by
  unfold report
  split
  · exact .inl rfl
  · split
    · exact .inl rfl
    · exact .inr rfl

theorem fenceBlind_report (r : FaultRecord) : FenceBlind (report r) where
  counter s k := report_comm r (fun u => { u with fenceCounter := k }) s (fun _ _ _ => rfl) rfl rfl rfl
  queue s := by simp
  waiting s := by simp
  low s := by simp
  cause s := by
    obtain set | set := report_cause r s
    · simp [set]
    · simp [set]

theorem State.retiredCauses_fenceDone (s : State) (k : ApertureId → Nat) (v : BitVec 10) :
    (s.retiredCauses k v).getLsbD 2 = v.getLsbD 2 := by
  unfold State.retiredCauses
  split
  · simp
  · rfl

theorem fenceBlind_retire (n : ApertureId) : FenceBlind (retire n) where
  counter s k := by
    have ends : State.drainEnds { s with fenceCounter := k } n 1 = s.drainEnds n 1 := rfl
    rw [retire_eq, retire_eq, ends]
    split
    · rfl
    · rfl
  queue s := by simp
  waiting s := by simp
  low s := by simp
  cause s := by rw [(retire_retired n s).2, State.retiredCauses_fenceDone]

theorem fenceBlind_foldl_retire (l : List ApertureId) : FenceBlind fun s => l.foldl (fun t n => retire n t) s := by
  induction l with
  | nil => exact ⟨fun _ _ => rfl, fun _ => rfl, fun _ => rfl, fun _ => rfl, fun _ => rfl⟩
  | cons n l ih => exact ih.comp (fenceBlind_retire n)

theorem fenceBlind_readDone (x : ItemRecord) (r : BusResult) : FenceBlind (readDone x r) := by
  cases r with
  | okay beats => exact fenceBlind_pushCompletion x.master _
  | error => exact (fenceBlind_report _).comp (fenceBlind_pushCompletion x.master ⟨x.tag, .memoryError⟩)

/-! ## The commands behind a fence and the end of a Port Reset -/

/-- The ports are replaced and causes set, as at the end of a Port Reset. -/
def setPortsCauses (ports : Vector Port 6) (x : BitVec 10) (s : State) : State :=
  { s with ports := ports, causes := s.causes ||| x }

theorem setCause_setPortsCauses (c : Cause) (ports : Vector Port 6) (x : BitVec 10) (s : State) :
    setCause c (setPortsCauses ports x s) = setPortsCauses ports x (setCause c s) := by
  have commute : s.causes ||| x ||| c.mask = s.causes ||| c.mask ||| x := by
    rw [BitVec.or_assoc, BitVec.or_comm x, BitVec.or_assoc]
  rw [setCause, setPortsCauses, commute]
  rfl

theorem judgeInv_setPortsCauses (q : InvCommand) (ports : Vector Port 6) (x : BitVec 10) (s : State) :
    judgeInv q (setPortsCauses ports x s) = setPortsCauses ports x (judgeInv q s) := by
  by_cases closed : (s.aperture q.aperture).state = .closed
  · rw [judgeInv_of_closed closed, judgeInv_of_closed (s := setPortsCauses ports x s) closed]
  · have same : (setPortsCauses ports x s).aperture q.aperture = s.aperture q.aperture := rfl
    rw [judgeInv_of_live closed, judgeInv_of_live (s := setPortsCauses ports x s) closed, same]
    split
    · exact setCause_setPortsCauses .invalidationError ports x s
    · rfl

theorem completeFence_setPortsCauses (q : InvCommand) (rest : List InvCommand) (ports : Vector Port 6) (x : BitVec 10)
    (s : State) : completeFence q rest (setPortsCauses ports x s) = setPortsCauses ports x (completeFence q rest s) := by
  unfold completeFence
  split
  · exact setCause_setPortsCauses .fenceDone ports x { s with fenceToken := q.index, invQueue := rest, fenceWaiting := false }
  · rfl

/-- The handling of the queue looks at no port and at no cause. -/
theorem handleHead_setPortsCauses (l : List InvCommand) (ports : Vector Port 6) (x : BitVec 10) (s : State) :
    handleHead l (setPortsCauses ports x s) = setPortsCauses ports x (handleHead l s) := by
  induction l generalizing s with
  | nil => rfl
  | cons q rest ih =>
    by_cases kind : q.kind = .fence
    · have started : startFence { setPortsCauses ports x s with invQueue := q :: rest } =
          setPortsCauses ports x (startFence { s with invQueue := q :: rest }) := rfl
      have counter : (setPortsCauses ports x (startFence { s with invQueue := q :: rest })).fenceCounter =
          (startFence { s with invQueue := q :: rest }).fenceCounter := rfl
      simp only [handleHead, if_pos kind, started, counter]
      split
      · rw [completeFence_setPortsCauses, ih]
      · rfl
    · rw [handleHead_of_invalidation rest kind, handleHead_of_invalidation rest kind, ← ih, ← judgeInv_setPortsCauses]
      rfl

theorem handleHead_port (l : List InvCommand) (s : State) (m : Master) :
    (handleHead l s).ports = s.ports ∧ (handleHead l s).hasAccess m = s.hasAccess m := by
  refine (handleHead_acts l s).keep (P := fun t => t.ports = s.ports ∧ t.hasAccess m = s.hasAccess m) ⟨rfl, rfl⟩
    fun u t act same => ?_
  cases act with
  | marks =>
    refine ⟨same.1, Eq.trans ?_ same.2⟩
    simp only [State.hasAccess_eq, markItems, List.any_map, Function.comp_def, AccessRecord.ofMaster_mark]
  | _ => exact same

/-- A Port Reset that ends after the handling of the queue ends as before it. -/
theorem portResetTest_handleHead (m : Master) (rest : List InvCommand) (s : State) :
    portResetTest m (handleHead rest s) = handleHead rest (portResetTest m s) := by
  obtain ⟨ports, access⟩ := handleHead_port rest s m
  have port : (handleHead rest s).port m = s.port m := congrArg (fun p : Vector Port 6 => p[m]) ports
  by_cases due : (s.port m).state = .resetting ∧ s.hasAccess m = false
  · obtain ⟨resetting, none⟩ := due
    have ended (u : State) : endPortReset m u = setPortsCauses (endPortReset m u).ports 0x200 u := rfl
    rw [portResetTest_of_due resetting none, portResetTest_of_due (port ▸ resetting) (access.trans none), ended, ended s,
      handleHead_setPortsCauses]
    congr 1
    simp only [endPortReset, port]
    exact congrArg (fun v : Vector Port 6 => v.set m _) ports
  · have early (resetting : (s.port m).state = .resetting) : s.hasAccess m = true :=
      Bool.eq_true_of_not_eq_false fun none => due ⟨resetting, none⟩
    rw [portResetTest_of_not_due early, portResetTest_of_not_due fun resetting => access.trans (early (port ▸ resetting))]

theorem fenceCompleted_setPortsCauses (ports : Vector Port 6) (x : BitVec 10) (s : State) (q : InvCommand)
    (rest : List InvCommand) :
    (setPortsCauses ports x s).fenceCompleted q rest = setPortsCauses ports x (s.fenceCompleted q rest) := by
  have commute : (if q.interrupt then s.causes ||| x ||| 0x004 else s.causes ||| x) =
      (if q.interrupt then s.causes ||| 0x004 else s.causes) ||| x := by
    cases q.interrupt with
    | false => rfl
    | true => simp only [if_true]; rw [BitVec.or_assoc, BitVec.or_comm x, BitVec.or_assoc]
  simp only [State.fenceCompleted, setPortsCauses, commute]

theorem portResetTest_fenceCompleted (m : Master) (s : State) (q : InvCommand) (rest : List InvCommand) :
    portResetTest m (s.fenceCompleted q rest) = (portResetTest m s).fenceCompleted q rest := by
  by_cases due : (s.port m).state = .resetting ∧ s.hasAccess m = false
  · obtain ⟨resetting, none⟩ := due
    rw [portResetTest_of_due resetting none, portResetTest_of_due (s := s.fenceCompleted q rest) resetting none]
    exact (fenceCompleted_setPortsCauses (endPortReset m s).ports 0x200 s q rest).symm
  · have early (resetting : (s.port m).state = .resetting) : s.hasAccess m = true :=
      Bool.eq_true_of_not_eq_false fun none => due ⟨resetting, none⟩
    rw [portResetTest_of_not_due early, portResetTest_of_not_due (s := s.fenceCompleted q rest) early]

theorem portResetTest_fenceDone (m : Master) (s : State) : (portResetTest m s).causes.getLsbD 2 = s.causes.getLsbD 2 := by
  unfold portResetTest
  split
  · simp [endPortReset, setCause, Cause.mask]
  · rfl

/-! ## The last counted retirement -/

/-- The last `k` counted items retire in a state `w`: the fence completes, and the commands behind it are handled from the state
that one more counted item would have left. -/
theorem handledFrom_lastRetirement {m : Master} {k : Nat} {w : State} {q : InvCommand} {rest : List InvCommand}
    (high : w.resetLow = false) (queue : w.invQueue = q :: rest) (waits : w.fenceWaiting = true) (some' : k ≠ 0)
    (counter : w.fenceCounter = k) :
    HandledFrom (.next (portResetTest m (lowerFence k w)))
      ((portResetTest m { w with fenceCounter := 1 }).fenceCompleted q rest) := by
  have zero : w.fenceCounter - k = 0 := by omega
  have completed : lowerFence k w = handleHead rest (w.fenceCompleted q rest) := by
    rw [lowerFence, if_neg some', zero]
    exact fenceTest_of_due (s := { w with fenceCounter := 0 }) queue waits rfl
  have reset : portResetTest m (w.fenceCompleted q rest) =
      (portResetTest m { w with fenceCounter := 1 }).fenceCompleted q rest :=
    portResetTest_fenceCompleted m { w with fenceCounter := 1 } q rest
  rw [completed, portResetTest_handleHead, reset]
  exact handledFrom_fenceCompleted (by simpa using high) q rest

/-- An event in which `k` counted items retire after an operation that the fence does not see. -/
def lastEvent (f : State → State) (m : Master) (k : Nat) (s : State) : State := portResetTest m (lowerFence k (f s))

theorem FenceBlind.lastEvent_of_more {f : State → State} (blind : FenceBlind f) (m : Master) {k : Nat} {s : State}
    (counter : s.fenceCounter = k) :
    lastEvent f m k { s with fenceCounter := s.fenceCounter + 1 } = portResetTest m { f s with fenceCounter := 1 } := by
  have left : s.fenceCounter + 1 - k = 1 := by omega
  rw [lastEvent, blind.counter, lowerFence_of_left (s := { f s with fenceCounter := s.fenceCounter + 1 })
    fun _ _ => show k < s.fenceCounter + 1 by omega]
  simp only [left]

/-- Everything else is as in the event that leaves one counted item more (R148, R151). -/
theorem FenceBlind.completes {f : State → State} (blind : FenceBlind f) {m : Master} {k : Nat} {s : State} {q : InvCommand}
    {rest : List InvCommand} (high : s.resetLow = false) (queue : s.invQueue = q :: rest) (waits : s.fenceWaiting = true)
    (some' : k ≠ 0) (counter : s.fenceCounter = k) :
    let v := lastEvent f m k { s with fenceCounter := s.fenceCounter + 1 }
    HandledFrom (.next (lastEvent f m k s)) (v.fenceCompleted q rest) ∧
      (rest = [] → ∃ t, Host.Outcome.next (lastEvent f m k s) = (.next t : Result) ∧
        t.fenceToken = q.index ∧ t.fenceCounter = 0 ∧ t.fenceWaiting = false ∧ t.invQueue = [] ∧
        t.causes.getLsbD 2 = (s.causes.getLsbD 2 || q.interrupt)) := by
  intro v
  have handled : HandledFrom (.next (lastEvent f m k s)) (v.fenceCompleted q rest) := by
    rw [show v = _ from blind.lastEvent_of_more m counter]
    exact handledFrom_lastRetirement ((blind.low s).trans high) ((blind.queue s).trans queue) ((blind.waiting s).trans waits)
      some' ((blind.keeps_counter s).trans counter)
  refine ⟨handled, fun none => ⟨_, handled.1 none, rfl, rfl, rfl, none, ?_⟩⟩
  have before : v.causes.getLsbD 2 = s.causes.getLsbD 2 := by
    rw [show v = _ from blind.lastEvent_of_more m counter, portResetTest_fenceDone]
    exact blind.cause s
  change (if q.interrupt then v.causes ||| 0x004 else v.causes).getLsbD 2 = _
  cases q.interrupt with
  | false => rw [Bool.or_false, ← before]; rfl
  | true => simp

/-! ## Settlement of O41 -/

theorem fenceBlind_removeIssued (m : Master) (es : List WriteEntry) :
    FenceBlind fun s => s.setQueue m { s.queue m with writes := es } :=
  ⟨fun _ _ => rfl, fun _ => rfl, fun _ => rfl, fun _ => rfl, fun _ => rfl⟩

theorem writeDone_of_none {x : ItemRecord} {s : State} (r : BusResult)
    (none : ∀ e es, (s.queue x.master).writes = e :: es → e.isIssued = false) : writeDone x r s = s := by
  cases head : (s.queue x.master).writes with
  | nil => simp only [writeDone, head]
  | cons e es => simp only [writeDone, head, none e es head, Bool.false_eq_true, if_false]

/-- One case of a Write record's completion, its entry and whether its port is Resetting being given. -/
theorem fenceBlind_writeDone_case (x : ItemRecord) (r : BusResult) (e : WriteEntry) (es : List WriteEntry) (kind : FaultKind) :
    FenceBlind fun s => match r, e.posted with
      | .okay _, false => pushCompletion x.master ⟨e.tag, .okayWrite⟩ (s.setQueue x.master { s.queue x.master with writes := es })
      | .okay _, true => s.setQueue x.master { s.queue x.master with writes := es }
      | .error, false => reportMemory .memoryError .write x
          (pushCompletion x.master ⟨e.tag, .memoryError⟩ (s.setQueue x.master { s.queue x.master with writes := es }))
      | .error, true => reportMemory kind .write x (s.setQueue x.master { s.queue x.master with writes := es }) := by
  have removed := fenceBlind_removeIssued x.master es
  cases r with
  | okay beats =>
    cases e.posted with
    | false => exact (fenceBlind_pushCompletion x.master ⟨e.tag, .okayWrite⟩).comp removed
    | true => exact removed
  | error =>
    cases e.posted with
    | false => exact (fenceBlind_report _).comp ((fenceBlind_pushCompletion x.master ⟨e.tag, .memoryError⟩).comp removed)
    | true => exact (fenceBlind_report _).comp removed

theorem fenceBlind_writeDone (x : ItemRecord) (r : BusResult) : FenceBlind (writeDone x r) where
  counter s k := by
    by_cases none : ∀ e es, (s.queue x.master).writes = e :: es → e.isIssued = false
    · rw [writeDone_of_none r none, writeDone_of_none (s := { s with fenceCounter := k }) r none]
    · push Not at none
      obtain ⟨e, es, head, issued⟩ := none
      rw [ne_eq, Bool.not_eq_false] at issued
      rw [writeDone_of_issued head issued, writeDone_of_issued (s := { s with fenceCounter := k }) head issued]
      exact (fenceBlind_writeDone_case x r e es _).counter s k
  queue s := by simp
  waiting s := by simp
  low s := by simp
  cause s := by
    by_cases none : ∀ e es, (s.queue x.master).writes = e :: es → e.isIssued = false
    · rw [writeDone_of_none r none]
    · push Not at none
      obtain ⟨e, es, head, issued⟩ := none
      rw [ne_eq, Bool.not_eq_false] at issued
      rw [writeDone_of_issued head issued]
      exact (fenceBlind_writeDone_case x r e es _).cause s

theorem fenceBlind_takeRecord (rest : List AccessRecord) : FenceBlind fun s => { s with inFlight := rest } :=
  ⟨fun _ _ => rfl, fun _ => rfl, fun _ => rfl, fun _ => rfl, fun _ => rfl⟩

theorem fenceBlind_sweep (m : Master) (enable : Bool) : FenceBlind fun s => sweep m (indicate m (storeEnable m enable s)) :=
  ⟨fun _ _ => rfl, fun _ => rfl, fun _ => rfl, fun _ => rfl, fun _ => rfl⟩

/-- The completion of a write that succeeds sets no cause, and leaves the descriptors and the port states. -/
theorem writeDone_okay (x : ItemRecord) (beats : Vector Beat 8) (s : State) : (writeDone x (.okay beats) s).causes = s.causes ∧
    (writeDone x (.okay beats) s).apertures = s.apertures ∧
    ((writeDone x (.okay beats) s).port x.master).state = (s.port x.master).state := by
  by_cases none : ∀ e es, (s.queue x.master).writes = e :: es → e.isIssued = false
  · rw [writeDone_of_none _ none]
    exact ⟨rfl, rfl, rfl⟩
  · push Not at none
    obtain ⟨e, es, head, issued⟩ := none
    rw [ne_eq, Bool.not_eq_false] at issued
    rw [writeDone_of_issued head issued]
    cases e.posted <;> simp

/-- What a memory completion of a counted record does, as an event that the fence does not see before its last step. -/
theorem memoryCompletion_lastEvent {s : State} {x : ItemRecord} {flight : List AccessRecord}
    (oldest : s.inFlight = .read x :: flight ∨ s.inFlight = .write x :: flight) (counted : x.counted = true) (r : BusResult) :
    ∃ f, FenceBlind f ∧
      (∀ u : State, u.resetLow = false → u.inFlight = s.inFlight → exec (.memoryCompletion r) u = .next
        (lastEvent (fun u => retire x.aperture (f { u with inFlight := flight })) x.master 1 u)) ∧
      ∀ beats, r = .okay beats → ∀ u, (f u).causes = u.causes ∧ (f u).apertures = u.apertures ∧
        ((f u).port x.master).state = (u.port x.master).state := by
  obtain read | write := oldest
  · refine ⟨readDone x r, fenceBlind_readDone x r, fun u high same => ?_, ?_⟩
    · rw [exec_memoryCompletion high (same.trans read), recordDone, retireRecord, counted]
      rfl
    · rintro beats rfl u
      exact ⟨by simp [readDone], by simp [readDone], by simp [readDone]⟩
  · refine ⟨writeDone x r, fenceBlind_writeDone x r, fun u high same => ?_, ?_⟩
    · rw [exec_memoryCompletion high (same.trans write), recordDone, retireRecord, counted]
      rfl
    · rintro beats rfl u
      exact writeDone_okay x beats u

/-- Settles O41: the event without the fence, its counter, and the commands behind the fence. -/
theorem lastCountedRetirementCompletesTheFence : Obligations.LastCountedRetirementCompletesTheFence := by
  unfold Obligations.LastCountedRetirementCompletesTheFence
  intro completes
  refine ⟨fun s x flight r q rest high oldest counted waits one queue => ?_,
    fun s m enable q rest high live waits queue some' total => ?_⟩
  · obtain ⟨f, blind, runs, okay⟩ := memoryCompletion_lastEvent oldest counted r
    have blind' := (fenceBlind_retire x.aperture).comp (blind.comp (fenceBlind_takeRecord flight))
    obtain ⟨handled, alone⟩ := blind'.completes (m := x.master) high queue waits one_ne_zero one
    have more := blind'.lastEvent_of_more x.master one
    rw [← runs s high rfl] at handled alone
    refine ⟨⟨⟨_, runs { s with fenceCounter := s.fenceCounter + 1 } high rfl, handled⟩, alone⟩,
      fun beats result none live undrained => ⟨_, handled.1 none, ?_⟩⟩
    obtain ⟨causes, apertures, state⟩ := okay beats result { s with inFlight := flight }
    have still : ((f { s with inFlight := flight }).aperture x.aperture).state ≠ .draining := by
      rw [State.aperture, apertures]
      exact undrained
    rw [retire_of_live still, portResetTest_of_not_due fun resetting => ?_] at more
    · rw [more]
      change (if q.interrupt then (f { s with inFlight := flight }).causes ||| 0x004
        else (f { s with inFlight := flight }).causes) = _
      rw [causes]
    · exact absurd (state.symm.trans resetting) live
  · let f (u : State) : State :=
      (s.sweptApertures m).foldl (fun t n => retire n t) (sweep m (indicate m (storeEnable m enable u)))
    have blind : FenceBlind f := (fenceBlind_foldl_retire (s.sweptApertures m)).comp (fenceBlind_sweep m enable)
    have live' : ((storeEnable m enable s).port m).state ≠ .resetting := by
      rw [storeEnable_port, if_pos rfl, if_neg live]
      cases enable <;> nofun
    have runs (k : Nat) : exec (.portReset m enable) { s with fenceCounter := k } =
        .next (lastEvent f m (s.sweptCounted m) { s with fenceCounter := k }) := by
      rw [exec_portReset (s := { s with fenceCounter := k }) high, resetPort_of_live
        (s := storeEnable m enable { s with fenceCounter := k }) live']
      rfl
    rw [← s.sweptCounted_eq m] at total
    obtain ⟨handled, alone⟩ := blind.completes (m := m) high queue waits (total ▸ some') total
    rw [← runs s.fenceCounter] at handled alone
    exact ⟨⟨_, runs (s.fenceCounter + 1), handled⟩, alone⟩

end Sys2Proof.Machine

/-! PROOFS. Slots settled one after another: what a list of them leaves of the ports, the queues, the park table and the log
(sections 4.5 and 5.2), and the tick. -/

namespace Sys2Proof.Machine

/-! ## The fields that a settlement writes -/

/-- The fields that settling a slot can write: the park table, the ports, the queues, the descriptors, the caches, the log with
its flag and its free values, the causes. -/
def SlotFrame (s t : State) : Prop := ∃ park ports queues apertures pages dirs log overflow causes count, t = { s with
  park := park, ports := ports, queues := queues, apertures := apertures, pageCache := pages, dirCache := dirs, log := log
  overflow := overflow, causes := causes, freeCount := count }

theorem SlotFrame.refl (s : State) : SlotFrame s s := ⟨_, _, _, _, _, _, _, _, _, _, rfl⟩

theorem SlotFrame.trans {s t u : State} (h : SlotFrame s t) (h' : SlotFrame t u) : SlotFrame s u := by
  obtain ⟨_, _, _, _, _, _, _, _, _, _, rfl⟩ := h
  obtain ⟨_, _, _, _, _, _, _, _, _, _, rfl⟩ := h'
  exact ⟨_, _, _, _, _, _, _, _, _, _, rfl⟩

theorem SlotFrame.same {s t : State} (h : SlotFrame s t) : t = { s with
    park := t.park, ports := t.ports, queues := t.queues, apertures := t.apertures, pageCache := t.pageCache
    dirCache := t.dirCache, log := t.log, overflow := t.overflow, causes := t.causes, freeCount := t.freeCount } := by
  obtain ⟨_, _, _, _, _, _, _, _, _, _, rfl⟩ := h
  rfl

theorem SlotFrame.regions {s t : State} (h : SlotFrame s t) : t.regions = s.regions := (congrArg State.regions h.same :)

theorem SlotFrame.contexts {s t : State} (h : SlotFrame s t) : t.contexts = s.contexts := (congrArg State.contexts h.same :)

theorem slotFrame_pushCompletion (m : Master) (c : Completion) (s : State) : SlotFrame s (pushCompletion m c s) := by
  obtain ⟨ports, same⟩ := pushCompletion_same m c s
  rw [same]
  exact ⟨_, _, _, _, _, _, _, _, _, _, rfl⟩

theorem slotFrame_setQueue (m : Master) (q : IssueQueues) (s : State) : SlotFrame s (s.setQueue m q) :=
  ⟨_, _, _, _, _, _, _, _, _, _, rfl⟩

theorem slotFrame_dropParkedWrite (k : ParkSlot) (s : State) : SlotFrame s (dropParkedWrite k s) := by
  unfold dropParkedWrite
  split
  · exact slotFrame_setQueue _ _ s
  · exact .refl s

theorem slotFrame_freeSlot (k : SlotId) (s : State) : SlotFrame s (freeSlot k s) := ⟨_, _, _, _, _, _, _, _, _, _, rfl⟩

theorem slotFrame_retire (n : ApertureId) (s : State) : SlotFrame s (retire n s) := by
  obtain ⟨a, p, d, x, same⟩ := retire_same n s
  rw [same]
  exact ⟨_, _, _, _, _, _, _, _, _, _, rfl⟩

theorem slotFrame_haltOnFault (n : ApertureId) (s : State) : SlotFrame s (haltOnFault n s) := by
  unfold haltOnFault
  dsimp only
  split
  · exact ⟨_, _, _, _, _, _, _, _, _, _, rfl⟩
  · exact .refl s

theorem slotFrame_report (r : FaultRecord) (s : State) : SlotFrame s (report r s) := by
  rw [report_eq]
  exact ⟨_, _, _, _, _, _, _, _, _, _, rfl⟩

theorem slotFrame_reportCheck (k : TransFault) (m : Master) (t : Tag) (n : ApertureId) (kind : AccessKind) (addr : Word)
    (frame : Nat) (s : State) : SlotFrame s (reportCheck k m t n kind addr frame s) := by
  rw [reportCheck_eq]
  exact SlotFrame.trans ⟨_, _, _, _, _, _, _, _, _, _, rfl⟩ (slotFrame_report _ _)

theorem slotFrame_leaveSlot (k : ParkSlot) (status : CompletionStatus) (s : State) : SlotFrame s (leaveSlot k status s) :=
  (slotFrame_pushCompletion _ _ s).trans ((slotFrame_dropParkedWrite k _).trans
    ((slotFrame_freeSlot _ _).trans (slotFrame_retire _ _)))

/-! ## The ports, the queues and the park table -/

/-- What settling the slots of a list, one after another, leaves: slot `k` gives the completions `cs k` to its master where its
port is live, appends the reads `rs k` to its list, changes its writes by `ws k`, and becomes Free. -/
structure Settling (cs : ParkSlot → List Completion) (rs : ParkSlot → List ReadEntry)
    (ws : ParkSlot → List WriteEntry → List WriteEntry) (l : List ParkSlot) (s t : State) : Prop where
  ports : ∀ m, t.port m = { s.port m with
    completions := (s.port m).completions ++
      if (s.port m).state = .resetting then [] else (l.filter (·.master = m)).flatMap cs }
  queues : ∀ m, t.queue m = ⟨(s.queue m).reads ++ (l.filter (·.master = m)).flatMap rs,
    (l.filter (·.master = m)).foldl (fun w k => ws k w) (s.queue m).writes⟩
  park : t.park = s.park.filter fun x => l.all fun k => x.num != k.num
  frame : SlotFrame s t

section
variable {cs : ParkSlot → List Completion} {rs : ParkSlot → List ReadEntry} {ws : ParkSlot → List WriteEntry → List WriteEntry}

theorem Settling.refl (s : State) : Settling cs rs ws [] s s where
  ports m := by simp
  queues m := by simp
  park := by simp
  frame := .refl s

theorem Settling.trans {l l' : List ParkSlot} {s t u : State} (h : Settling cs rs ws l s t) (h' : Settling cs rs ws l' t u) :
    Settling cs rs ws (l ++ l') s u where
  ports m := by
    rw [h'.ports, h.ports]
    by_cases resetting : (s.port m).state = .resetting
    · simp [resetting]
    · simp [resetting, List.flatMap_append]
  queues m := by
    rw [h'.queues, h.queues]
    simp [List.flatMap_append]
  park := by
    rw [h'.park, h.park, List.filter_filter]
    simp only [List.all_append]
    exact List.filter_congr fun x _ => Bool.and_comm _ _
  frame := h.frame.trans h'.frame

/-- Settling the slots of a list, each in a state of which `I` holds. -/
theorem Settling.foldl {I : State → Prop} {f : State → ParkSlot → State} {l : List ParkSlot} {s : State} (start : I s)
    (step : ∀ u, I u → ∀ k ∈ l, Settling cs rs ws [k] u (f u k) ∧ I (f u k)) : Settling cs rs ws l s (l.foldl f s) := by
  induction l generalizing s with
  | nil => exact .refl s
  | cons k l ih =>
    obtain ⟨first, holds⟩ := step s start k List.mem_cons_self
    exact first.trans (ih holds fun u inv x mem => step u inv x (List.mem_cons_of_mem k mem))

/-- Settling one slot. -/
theorem Settling.single {k : ParkSlot} {s t : State}
    (ports : ∀ m, t.port m = if m = k.master ∧ (s.port m).state ≠ .resetting then
      { s.port m with completions := (s.port m).completions ++ cs k } else s.port m)
    (queues : ∀ m, t.queue m = if m = k.master then ⟨(s.queue m).reads ++ rs k, ws k (s.queue m).writes⟩ else s.queue m)
    (park : t.park = s.park.filter (·.num != k.num)) (frame : SlotFrame s t) : Settling cs rs ws [k] s t where
  ports m := by
    rw [ports]
    by_cases own : m = k.master
    · subst own
      by_cases resetting : (s.port k.master).state = .resetting
      · rw [if_neg fun h => h.2 resetting, if_pos resetting, List.append_nil]
      · simp [resetting]
    · simp [own, Ne.symm own]
  queues m := by
    rw [queues]
    by_cases own : m = k.master
    · subst own
      simp
    · simp [own, Ne.symm own]
  park := by rw [park]; simp
  frame := frame

end

/-- The Untranslated entry of a settled write leaves its queue; a read has none (R78, R96, R113). -/
def ParkSlot.dropHole (k : ParkSlot) (l : List WriteEntry) : List WriteEntry :=
  if k.kind = .write then l.eraseP (·.isHole k.tag) else l

/-- A slot that leaves with a completion, as `leaveSlot` or as the draining abort, in the state that a report has left. -/
theorem settling_leaveSlot {s : State} (k : ParkSlot) (status : ParkSlot → CompletionStatus) :
    Settling (fun k => [⟨k.tag, status k⟩]) (fun _ => []) ParkSlot.dropHole [k] s (leaveSlot k (status k) s) := by
  refine .single (fun m => ?_) (fun m => ?_) (leaveSlot_park k _ s) (slotFrame_leaveSlot k _ s)
  · rw [leaveSlot_port, pushCompletion_port]
    by_cases own : m = k.master
    · subst own; rfl
    · simp [own]
  · rw [leaveSlot_queue]
    by_cases own : m = k.master <;> by_cases write : k.kind = .write <;> simp [own, write, ParkSlot.dropHole]

/-- The writes of a master's slots alone change its writes. -/
theorem foldl_dropHole (l : List ParkSlot) (m : Master) (w : List WriteEntry) :
    (l.filter (·.master = m)).foldl (fun w k => k.dropHole w) w =
      (l.filter fun k => k.master = m ∧ k.kind = .write).foldl
        (fun w k => w.eraseP fun e => e.state = .untranslated ∧ e.tag = k.tag) w := by
  induction l generalizing w with
  | nil => rfl
  | cons k l ih =>
    have hole : (fun e : WriteEntry => e.isHole k.tag) = fun e => decide (e.state = .untranslated ∧ e.tag = k.tag) := by
      funext e
      simp [WriteEntry.isHole]
    by_cases own : k.master = m
    · rw [List.filter_cons_of_pos (by simpa using own), List.foldl_cons, ih]
      by_cases write : k.kind = .write
      · rw [List.filter_cons_of_pos (by simp [own, write]), List.foldl_cons, ParkSlot.dropHole, if_pos write, hole]
      · rw [List.filter_cons_of_neg (by simp [write]), ParkSlot.dropHole, if_neg write]
    · rw [List.filter_cons_of_neg (by simpa using own), ih, List.filter_cons_of_neg (by simp [own])]

/-! ## The log -/

/-- Two states have one log, and the causes of the first are those of the second with `x` besides. -/
structure SameLog (x : BitVec 10) (s u : State) : Prop where
  log : s.log = u.log
  overflow : s.overflow = u.overflow
  count : s.freeCount = u.freeCount
  causes : s.causes = u.causes ||| x

theorem SameLog.report {x : BitVec 10} {s u : State} (same : SameLog x s u) (r : FaultRecord) :
    SameLog x (report r s) (report r u) := by
  have commute (y : BitVec 10) : u.causes ||| x ||| y = u.causes ||| y ||| x := by
    rw [BitVec.or_assoc, BitVec.or_comm x, BitVec.or_assoc]
  unfold Machine.report
  rw [same.log]
  split
  · exact ⟨rfl, same.overflow, same.count, by rw [setCause, setCause]; dsimp only; rw [same.causes, commute]⟩
  · split
    · exact ⟨rfl, same.overflow, same.count, by rw [setCause, setCause]; dsimp only; rw [same.causes, commute]⟩
    · exact ⟨rfl, rfl, same.count, by rw [setCause, setCause]; dsimp only; rw [same.causes, commute]⟩

theorem SameLog.reportCheck {x : BitVec 10} {s u : State} (same : SameLog x s u) (k : TransFault) (m : Master) (t : Tag)
    (n : ApertureId) (kind : AccessKind) (addr : Word) (frame : Nat) :
    SameLog x (reportCheck k m t n kind addr frame s) (reportCheck k m t n kind addr frame u) := by
  obtain ⟨shown, drawn⟩ := recordFrame_congr frame same.count
  rw [reportCheck_eq, reportCheck_eq, shown, drawn, same.count]
  refine SameLog.report ?_ _
  exact ⟨same.log, same.overflow, rfl, same.causes⟩

/-- Reports one after another. -/
theorem SameLog.foldl {x : BitVec 10} {rep : State → ParkSlot → State}
    (blind : ∀ s u k, SameLog x s u → SameLog x (rep s k) (rep u k)) (l : List ParkSlot) {s u : State} (same : SameLog x s u) :
    SameLog x (l.foldl rep s) (l.foldl rep u) := by
  induction l generalizing s u with
  | nil => exact same
  | cons k l ih => exact ih (blind s u k same)

/-! ## Slots of a park table with distinct numbers -/

theorem ParkLaw.eq_of_num {s : State} (law : ParkLaw s) {x k : ParkSlot} (mem : x ∈ s.park) (mem' : k ∈ s.park)
    (num : x.num = k.num) : x = k := by
  have symmetric : Std.Symm fun a b : ParkSlot => a.num ≠ b.num := ⟨fun _ _ h => h.symm⟩
  by_contra other
  exact law.forall mem mem' other num

/-- The slots that stay as those of a choice leave. -/
theorem ParkLaw.filter_left {s : State} (law : ParkLaw s) (p : ParkSlot → Bool) :
    (s.park.filter fun x => (s.park.filter p).all fun k => x.num != k.num) = s.park.filter fun x => !p x := by
  refine List.filter_congr fun x mem => ?_
  rw [Bool.eq_iff_iff, List.all_eq_true]
  simp only [List.mem_filter, bne_iff_ne, Bool.not_eq_true', and_imp]
  refine ⟨fun apart => Bool.eq_false_iff.2 fun chosen => apart x mem chosen rfl, fun stays k inside chosen num => ?_⟩
  rw [law.eq_of_num mem inside num, chosen] at stays
  exact Bool.noConfusion stays

theorem ParkLaw.filter_eq_erase {s : State} (law : ParkLaw s) {k : ParkSlot} (mem : k ∈ s.park) :
    s.park.filter (·.num != k.num) = s.park.erase k := by
  rw [List.Nodup.erase_eq_filter (law.imp fun apart => ne_of_apply_ne ParkSlot.num apart)]
  refine List.filter_congr fun x inside => ?_
  rw [Bool.eq_iff_iff, bne_iff_ne, bne_iff_ne]
  exact not_congr ⟨law.eq_of_num inside mem, congrArg _⟩

/-! ## Expiries (R94 to R98) -/

theorem Settling.of_before {cs : ParkSlot → List Completion} {rs : ParkSlot → List ReadEntry}
    {ws : ParkSlot → List WriteEntry → List WriteEntry} {l : List ParkSlot} {s u t : State} (h : Settling cs rs ws l u t)
    (ports : u.ports = s.ports) (queues : u.queues = s.queues) (park : u.park = s.park) (frame : SlotFrame s u) :
    Settling cs rs ws l s t where
  ports m := by
    have same : u.port m = s.port m := congrArg (fun v : Vector Port 6 => v[m]) ports
    rw [h.ports, same]
  queues m := by
    have same : u.queue m = s.queue m := congrArg (fun v : Vector IssueQueues 6 => v[m]) queues
    rw [h.queues, same]
  park := by rw [h.park, park]
  frame := frame.trans h.frame

/-- The record of a Timeout. -/
abbrev timeoutRecord (k : ParkSlot) : FaultRecord :=
  ⟨.timeout, k.master, k.tag, some k.aperture, k.kind, k.address, none, 1⟩

theorem settling_expireSlot (s : State) (k : ParkSlot) :
    Settling (fun k => [⟨k.tag, .timeout⟩]) (fun _ => []) ParkSlot.dropHole [k] s (expireSlot s k) := by
  rw [expireSlot_eq]
  exact (settling_leaveSlot k fun _ => .timeout).of_before (by simp) (by simp) (by simp) (slotFrame_report _ s)

theorem State.retiredCauses_eq_or (s : State) (k : ApertureId → Nat) (v : BitVec 10) :
    s.retiredCauses k v = v ||| s.retiredCauses k 0 := by
  unfold State.retiredCauses
  split
  · simp
  · simp

/-- The retirement and the report of one expiry. -/
theorem expireSlot_retired (s : State) (k : ParkSlot) :
    Retired (fun n => if n = k.aperture then 1 else 0) s (expireSlot s k) ∧
      SameLog (s.retiredCauses (fun n => if n = k.aperture then 1 else 0) 0) (expireSlot s k) (report (timeoutRecord k) s) := by
  let v := freeSlot k.num (dropParkedWrite k (pushCompletion k.master ⟨k.tag, .timeout⟩ (report (timeoutRecord k) s)))
  have expired : expireSlot s k = retire k.aperture v := expireSlot_eq s k
  have apertures : v.apertures = s.apertures := by simp [v]
  have contexts : v.contexts = s.contexts := by simp [v]
  obtain ⟨retired, causes⟩ := retire_retired k.aperture v
  rw [State.retiredCauses_congr apertures contexts, State.retiredCauses_eq_or] at causes
  rw [expired]
  refine ⟨retired.congr apertures.symm contexts.symm (by simp [v]) (by simp [v]) rfl rfl rfl, ?_, ?_, ?_, ?_⟩
  · simp [v]
  · simp [v]
  · simp [v]
  · rw [causes]
    simp [v]

theorem countP_cons_aperture (k : ParkSlot) (l : List ParkSlot) : (fun n => (k :: l).countP fun x => x.aperture = n) =
    fun n => (if n = k.aperture then 1 else 0) + l.countP fun x => x.aperture = n := by
  funext n
  rw [List.countP_cons, Nat.add_comm]
  congr 1
  simp [eq_comm]

/-- The retirements and the reports of expiries one after another. -/
theorem foldl_expireSlot_retired (l : List ParkSlot) (s : State) :
    Retired (fun n => l.countP fun x => x.aperture = n) s (l.foldl expireSlot s) ∧
      SameLog (s.retiredCauses (fun n => l.countP fun x => x.aperture = n) 0) (l.foldl expireSlot s)
        (l.foldl (fun u k => report (timeoutRecord k) u) s) := by
  induction l generalizing s with
  | nil => exact ⟨.refl s, rfl, rfl, rfl, by simp [State.retiredCauses]⟩
  | cons k l ih =>
    obtain ⟨first, logged⟩ := expireSlot_retired s k
    obtain ⟨rest, logged'⟩ := ih (expireSlot s k)
    have contexts : (expireSlot s k).contexts = s.contexts := (settling_expireSlot s k).frame.contexts
    have before := SameLog.foldl (rep := fun u k => report (timeoutRecord k) u) (fun _ _ k same => same.report _) l logged
    rw [countP_cons_aperture]
    refine ⟨first.trans contexts rest, logged'.log.trans before.log, logged'.overflow.trans before.overflow,
      logged'.count.trans before.count, ?_⟩
    rw [List.foldl_cons, logged'.causes, before.causes, ← first.causes_trans contexts,
      State.retiredCauses_eq_or (expireSlot s k) _ (s.retiredCauses _ 0), BitVec.or_assoc]
    rfl

end Sys2Proof.Machine

/-! PROOFS. Ticks and expiries in the words of the statement (R94 to R98). -/

namespace Sys2Proof.Machine

theorem SameLog.of_refl {s u : State} (log : s.log = u.log) (overflow : s.overflow = u.overflow) (count : s.freeCount = u.freeCount)
    (causes : s.causes = u.causes) : SameLog 0 s u := ⟨log, overflow, count, by rw [causes]; simp⟩

/-- The number of free values drawn stays through reports. -/
theorem foldl_report_count (l : List ParkSlot) (s : State) :
    (l.foldl (fun u k => report (timeoutRecord k) u) s).freeCount = s.freeCount := by
  induction l generalizing s with
  | nil => rfl
  | cons k l ih => exact (ih _).trans (by simp)

/-- Slots that leave take the Untranslated entries of their writes with them. -/
theorem Settling.queue_of_drop {cs : ParkSlot → List Completion} {l : List ParkSlot} {s t : State}
    (h : Settling cs (fun _ => []) ParkSlot.dropHole l s t) (m : Master) : t.queue m = { s.queue m with
      writes := (l.filter (fun k => k.master = m ∧ k.kind = .write)).foldl
        (fun l k => l.eraseP (fun e => e.state = .untranslated ∧ e.tag = k.tag)) (s.queue m).writes } := by
  have none : (l.filter (·.master = m)).flatMap (fun _ => ([] : List ReadEntry)) = [] := by simp
  rw [h.queues, none, List.append_nil, foldl_dropHole]

/-- What expiries one after another leave of `s`, where they begin in `s` but for the ticks of its slots. -/
theorem foldl_expireSlot_eq {s u : State} (expired others : List ParkSlot) (same : ∃ park, u = { s with park := park })
    (left : (u.park.filter fun x => expired.all fun k => x.num != k.num) = others) :
    let logged := expired.foldl (fun u k => report (timeoutRecord k) u) s
    let retiring (n : ApertureId) : Nat := expired.countP fun k => k.aperture = n
    let t := expired.foldl expireSlot u
    (∀ m, (s.port m).state = .resetting → t.port m = s.port m) ∧
    (∀ m, (s.port m).state ≠ .resetting → t.port m = { s.port m with
      completions := (s.port m).completions ++ (expired.filter (·.master = m)).map (fun k => ⟨k.tag, .timeout⟩) }) ∧
    (∀ m, t.queue m = { s.queue m with
      writes := (expired.filter (fun k => k.master = m ∧ k.kind = .write)).foldl
        (fun l k => l.eraseP (fun e => e.state = .untranslated ∧ e.tag = k.tag)) (s.queue m).writes }) ∧
    Retired retiring s t ∧
    t = { s with
      park := others, ports := t.ports, queues := t.queues, apertures := t.apertures, pageCache := t.pageCache
      dirCache := t.dirCache, log := logged.log, overflow := logged.overflow
      causes := s.retiredCauses retiring logged.causes } := by
  intro logged retiring t
  obtain ⟨park, rfl⟩ := same
  have settling : Settling (fun k => [⟨k.tag, .timeout⟩]) (fun _ => []) ParkSlot.dropHole expired { s with park := park } t :=
    Settling.foldl (I := fun _ => True) trivial fun v _ k _ => ⟨settling_expireSlot v k, trivial⟩
  obtain ⟨retired, logs⟩ := foldl_expireSlot_retired expired { s with park := park }
  have before := SameLog.foldl (rep := fun u k => report (timeoutRecord k) u) (fun _ _ k same => same.report _) expired
    (SameLog.of_refl (s := { s with park := park }) (u := s) rfl rfl rfl rfl)
  have ports (m : Master) : t.port m = { s.port m with completions := (s.port m).completions ++
      if (s.port m).state = .resetting then [] else (expired.filter (·.master = m)).map fun k => ⟨k.tag, .timeout⟩ } := by
    have timeouts : (expired.filter (·.master = m)).flatMap (fun k => [(⟨k.tag, .timeout⟩ : Completion)]) =
      (expired.filter (·.master = m)).map fun k => ⟨k.tag, .timeout⟩ := List.flatMap_pure_eq_map _ _
    rw [settling.ports, timeouts]
    rfl
  refine ⟨fun m resetting => ?_, fun m live => ?_, fun m => ?_, retired.congr rfl rfl rfl rfl rfl rfl rfl, ?_⟩
  · rw [ports, if_pos resetting, List.append_nil]
  · rw [ports, if_neg live]
  · exact settling.queue_of_drop m
  · have log : t.log = logged.log := logs.log.trans before.log
    have overflow : t.overflow = logged.overflow := logs.overflow.trans before.overflow
    have count : t.freeCount = s.freeCount := (logs.count.trans before.count).trans (foldl_report_count expired s)
    have parked : t.park = others := settling.park.trans left
    have causes : t.causes = s.retiredCauses retiring logged.causes := by
      rw [State.retiredCauses_eq_or, show t.causes = _ from logs.causes, before.causes]
      simp
      rfl
    rw [← log, ← overflow, ← causes, ← parked]
    refine settling.frame.same.trans ?_
    rw [count]

theorem ParkSlot.due_eq (k : ParkSlot) : k.due = decide (k.limit ≠ 0 ∧ k.limit.toNat + 1 ≤ k.ticks) := by
  rw [Bool.eq_iff_iff]
  simp [ParkSlot.due]

theorem exec_expiry_of_none {s : State} {i : SlotId} (high : s.resetLow = false)
    (none : (s.park.find? fun x => x.num = i && x.due) = none) : exec (.expiry i) s = .next s := by
  dsimp only [exec, execExpiry]
  rw [whenReleased_of_high high]
  simp only [none]

theorem exec_expiry_of_some {s : State} {i : SlotId} {k : ParkSlot} (high : s.resetLow = false)
    (found : (s.park.find? fun x => x.num = i && x.due) = some k) : exec (.expiry i) s = .next (expireSlot s k) := by
  dsimp only [exec, execExpiry]
  rw [whenReleased_of_high high]
  simp only [found]

theorem ParkLaw.tick {s : State} (law : ParkLaw s) : ParkLaw { s with park := s.park.map ParkSlot.tick } := by
  refine List.pairwise_map.2 (law.imp fun {a b} apart => ?_)
  have kept (k : ParkSlot) : k.tick.num = k.num := by
    unfold ParkSlot.tick
    split <;> rfl
  rwa [kept, kept]

/-- Settles O47: the tick and the expiry as expiries one after another. -/
theorem ticksCountAndExpiriesSettle : Obligations.TicksCountAndExpiriesSettle := by
  intro s high law counted due
  have dueEq : ParkSlot.due = due := funext ParkSlot.due_eq
  refine ⟨fun i idle => ?_, fun c expired others event => ?_⟩
  · have none : (s.park.find? fun x => x.num = i && x.due) = none := by
      rw [List.find?_eq_none, dueEq]
      intro x mem found
      simp only [Bool.and_eq_true, decide_eq_true_eq] at found
      exact Bool.eq_false_iff.1 (idle x mem found.1) found.2
    exact exec_expiry_of_none high none
  · obtain ⟨rfl, rfl, rfl⟩ | ⟨k, mem, isDue, rfl, rfl, rfl⟩ := event
    · refine ⟨_, ?_, foldl_expireSlot_eq (u := { s with park := s.park.map ParkSlot.tick }) _ _ ⟨_, rfl⟩
        (law.tick.filter_left due)⟩
      dsimp only [exec, execTick]
      rw [whenReleased_of_high high, takeTick, dueEq]
      rfl
    · refine ⟨_, ?_, foldl_expireSlot_eq (u := s) [k] _ ⟨_, rfl⟩ ?_⟩
      · have found : (s.park.find? fun x => x.num = k.num && x.due) = some k := by
          cases search : s.park.find? fun x => x.num = k.num && x.due with
          | none =>
            rw [List.find?_eq_none, dueEq] at search
            exact absurd (search k mem) (by simp [isDue])
          | some x =>
            have holds := List.find?_some search
            simp only [Bool.and_eq_true, decide_eq_true_eq] at holds
            rw [law.eq_of_num (List.mem_of_find?_eq_some search) mem holds.1]
        exact exec_expiry_of_some high found
      · rw [← law.filter_eq_erase mem]
        simp

end Sys2Proof.Machine

/-! PROOFS. A Close under traffic in the words of the statement (R19, R20, R103). -/

namespace Sys2Proof.Machine

/-! ## Aborts one after another -/

theorem settling_abortSlot (s : State) (k : ParkSlot) :
    Settling (fun k => [⟨k.tag, .aborted⟩]) (fun _ => []) ParkSlot.dropHole [k] s (abortSlot s k) := by
  refine .single (fun m => ?_) (fun m => ?_) (abortSlot_park k s) ?_
  · rw [abortSlot_port, pushCompletion_port]
    by_cases own : m = k.master
    · subst own; rfl
    · simp [own]
  · rw [abortSlot_queue]
    by_cases own : m = k.master <;> by_cases write : k.kind = .write <;> simp [own, write, ParkSlot.dropHole]
  · exact (slotFrame_pushCompletion _ _ s).trans ((slotFrame_dropParkedWrite k _).trans
      ((slotFrame_freeSlot _ _).trans ⟨_, _, _, _, _, _, _, _, _, _, rfl⟩))

/-- What aborting the slots of one aperture leaves besides: its count, and nothing of the caches, the log and the causes. -/
structure Aborted (n : ApertureId) (j : Nat) (s t : State) : Prop where
  aperture : ∀ o, t.aperture o = if o = n then { s.aperture n with count := (s.aperture n).count - j } else s.aperture o
  pages : t.pageCache = s.pageCache
  dirs : t.dirCache = s.dirCache
  log : t.log = s.log
  overflow : t.overflow = s.overflow
  causes : t.causes = s.causes
  count : t.freeCount = s.freeCount

theorem aborted_abortSlot {n : ApertureId} {k : ParkSlot} (own : k.aperture = n) (s : State) : Aborted n 1 s (abortSlot s k) := by
  subst own
  refine ⟨fun o => ?_, by simp [abortSlot], by simp [abortSlot], by simp [abortSlot], by simp [abortSlot], by simp [abortSlot],
    by simp [abortSlot]⟩
  rw [abortSlot, lowerCount_aperture]
  simp

theorem aborted_foldl {n : ApertureId} {l : List ParkSlot} (own : ∀ k ∈ l, k.aperture = n) (s : State) :
    Aborted n l.length s (l.foldl abortSlot s) := by
  induction l generalizing s with
  | nil =>
    refine ⟨fun o => ?_, rfl, rfl, rfl, rfl, rfl, rfl⟩
    split
    · rename_i same
      rw [same]
      rfl
    · rfl
  | cons k l ih =>
    have first := aborted_abortSlot (own k List.mem_cons_self) s
    have rest := ih (fun x mem => own x (List.mem_cons_of_mem k mem)) (abortSlot s k)
    refine ⟨fun o => ?_, rest.pages.trans first.pages, rest.dirs.trans first.dirs, rest.log.trans first.log,
      rest.overflow.trans first.overflow, rest.causes.trans first.causes, rest.count.trans first.count⟩
    rw [List.foldl_cons, rest.aperture, first.aperture, first.aperture]
    by_cases same : o = n
    · simp only [same, if_true, List.length_cons, Nat.sub_sub, Nat.add_comm 1]
    · simp only [same, if_false]

/-! ## The entries of the aborted writes (R113) -/

theorem eraseP_eq_filter {α : Type} {p : α → Bool} {l : List α} (one : l.countP p ≤ 1) : l.eraseP p = l.filter fun x => !p x := by
  induction l with
  | nil => rfl
  | cons x l ih =>
    by_cases first : p x = true
    · have none : l.countP p = 0 := by
        rw [List.countP_cons_of_pos first] at one
        omega
      rw [List.eraseP_cons_of_pos first, List.filter_cons_of_neg (by simp [first])]
      exact (List.filter_eq_self.2 fun y mem => by simpa using List.countP_eq_zero.1 none y mem).symm
    · rw [List.countP_cons_of_neg first] at one
      rw [List.eraseP_cons_of_neg first, List.filter_cons_of_pos (by simp [first]), ih one]

/-- With at most one Untranslated entry for each tag, the slots of a list take out all of theirs. -/
theorem foldl_eraseP_eq_filter {l : List ParkSlot} {w : List WriteEntry}
    (one : ∀ g, w.countP (fun e => e.state = .untranslated ∧ e.tag = g) ≤ 1) :
    l.foldl (fun w k => w.eraseP fun e => e.state = .untranslated ∧ e.tag = k.tag) w =
      w.filter fun e => ¬ (e.state = .untranslated ∧ e.tag ∈ l.map (·.tag)) := by
  induction l generalizing w with
  | nil => simp
  | cons k l ih =>
    have fewer (g : Tag) := (List.Sublist.countP_le (p := fun e : WriteEntry => decide (e.state = .untranslated ∧ e.tag = g))
      (List.filter_sublist (p := fun e : WriteEntry => !decide (e.state = .untranslated ∧ e.tag = k.tag)) (l := w))).trans (one g)
    rw [List.foldl_cons, eraseP_eq_filter (one k.tag), ih fewer, List.filter_filter]
    refine List.filter_congr fun e _ => ?_
    rw [Bool.eq_iff_iff]
    simp only [Bool.and_eq_true, Bool.not_eq_true', decide_eq_true_eq, decide_eq_false_iff_not, List.map_cons, List.mem_cons]
    tauto

/-- Under the law of the requests a master has at most one parked slot for each tag. -/
theorem RequestLaw.parked_unique {s : State} (law : RequestLaw s) {k x : ParkSlot} (mem : k ∈ s.park) (mem' : x ∈ s.park)
    (master : k.master = x.master) (tag : k.tag = x.tag) : k = x := by
  have parked : ((s.park.filter (·.master = x.master)).map (·.tag)).Nodup := by
    have all := law.distinct x.master
    simp only [State.outstanding, List.append_assoc] at all
    exact (List.nodup_append.1 all).1
  exact List.inj_on_of_nodup_map parked (List.mem_filter.2 ⟨mem, by simpa using master⟩)
    (List.mem_filter.2 ⟨mem', by simp⟩) tag

/-- Under the law of the requests an Untranslated entry is that of a parked write, and each parked write has one. -/
theorem RequestLaw.parked_of_hole {s : State} (law : RequestLaw s) {m : Master} {e : WriteEntry} (mem : e ∈ (s.queue m).writes)
    (hole : e.state = .untranslated) :
    ∃ k ∈ s.park, k.master = m ∧ k.kind = .write ∧ k.tag = e.tag ∧ k.aperture = e.aperture := by
  have some' : 0 < (s.queue m).writes.countP fun x => x.state = .untranslated ∧ x.tag = e.tag ∧ x.aperture = e.aperture :=
    List.countP_pos_iff.2 ⟨e, mem, by simpa using hole⟩
  rw [law.holes] at some'
  obtain ⟨k, inside, own⟩ := List.countP_pos_iff.1 some'
  exact ⟨k, inside, by simpa using own⟩

theorem RequestLaw.hole_unique {s : State} (law : RequestLaw s) (m : Master) (g : Tag) :
    (s.queue m).writes.countP (fun e => e.state = .untranslated ∧ e.tag = g) ≤ 1 := by
  by_cases none : ∀ e ∈ (s.queue m).writes, ¬ (e.state = .untranslated ∧ e.tag = g)
  · rw [List.countP_eq_zero.2 fun e mem => by simpa only [decide_eq_true_eq] using none e mem]
    exact Nat.zero_le 1
  · push Not at none
    obtain ⟨e, mem, hole, rfl⟩ := none
    obtain ⟨k, inside, master, -, tag, own⟩ := law.parked_of_hole mem hole
    calc (s.queue m).writes.countP (fun x => x.state = .untranslated ∧ x.tag = e.tag)
        ≤ (s.queue m).writes.countP (fun x => x.state = .untranslated ∧ x.tag = e.tag ∧ x.aperture = e.aperture) := by
          refine List.countP_mono_left fun x mem' holds => ?_
          rw [decide_eq_true_eq] at holds ⊢
          obtain ⟨k', inside', master', -, tag', own'⟩ := law.parked_of_hole mem' holds.1
          have same := law.parked_unique inside inside' (master.trans master'.symm) (tag.trans (holds.2.symm.trans tag'.symm))
          exact ⟨holds.1, holds.2, by rw [← own', ← same, own]⟩
      _ = s.park.countP (fun x => x.master = m ∧ x.kind = .write ∧ x.tag = e.tag ∧ x.aperture = e.aperture) := law.holes m e.tag e.aperture
      _ ≤ s.park.countP (· = k) := by
          refine List.countP_mono_left fun x mem' holds => ?_
          rw [decide_eq_true_eq] at holds ⊢
          exact law.parked_unique mem' inside (holds.1.trans master.symm) (holds.2.2.1.trans tag.symm)
      _ ≤ 1 := by
          have distinct : s.park.Nodup := law.slots.imp fun apart => ne_of_apply_ne ParkSlot.num apart
          have := List.nodup_iff_count_le_one.1 distinct k
          simpa [List.count, beq_eq_decide] using this

/-- The aborts of an aperture's parked writes take out the Untranslated entries of that aperture (R113). -/
theorem RequestLaw.foldl_dropHoles {s : State} (law : RequestLaw s) (m : Master) (n : ApertureId) :
    (s.park.filter (fun k => k.aperture = n ∧ k.master = m ∧ k.kind = .write)).foldl
        (fun l k => l.eraseP (fun e => e.state = .untranslated ∧ e.tag = k.tag)) (s.queue m).writes =
      (s.queue m).writes.filter (fun e => ¬ (e.state = .untranslated ∧ e.aperture = n)) := by
  rw [foldl_eraseP_eq_filter (law.hole_unique m)]
  refine List.filter_congr fun e mem => ?_
  rw [decide_eq_decide]
  refine not_congr (and_congr_right fun hole => ?_)
  obtain ⟨k, inside, master, write, tag, own⟩ := law.parked_of_hole mem hole
  rw [List.mem_map]
  refine ⟨fun ⟨x, chosen, same⟩ => ?_, fun mine => ⟨k, List.mem_filter.2 ⟨inside, ?_⟩, tag⟩⟩
  · obtain ⟨inside', holds⟩ := List.mem_filter.1 chosen
    obtain ⟨mine, master', -⟩ := of_decide_eq_true holds
    rw [← own, law.parked_unique inside inside' (master.trans master'.symm) (tag.trans same.symm), mine]
  · exact decide_eq_true ⟨own.trans mine, master, write⟩

/-! ## The Close -/

theorem State.drained_congr {s t : State} {n : ApertureId} (count : (t.aperture n).count = (s.aperture n).count)
    (contexts : t.contexts = s.contexts) : t.drained n = s.drained n := by
  rw [State.drained, State.drained, count, State.walkBusyFor_congr contexts]

theorem closeCommand_of_busy {n : ApertureId} {s : State} (live : (s.aperture n).state = .opened ∨ (s.aperture n).state = .halted)
    (busy : s.drained n = false) : closeCommand n s = drainTest n (abortParked n ((setResult n .closed s).setAperture n
      { (setResult n .closed s).aperture n with state := .draining })) := by
  have live' : (decide ((s.aperture n).state = .opened) || decide ((s.aperture n).state = .halted)) = true := by simpa using live
  have busy' : (setResult n .closed s).drained n = false :=
    (State.drained_congr (by simp [setResult]) (by simp)).trans busy
  rw [closeCommand]
  simp only [live', busy', if_true, Bool.false_eq_true, if_false]

/-- Settles O21: the aborts one after another, and the drain that they may end. -/
theorem closeUnderTrafficAbortsTheParked : Obligations.CloseUnderTrafficAbortsTheParked := by
  intro n s high live busy law
  let u := (setResult n .closed s).setAperture n { (setResult n .closed s).aperture n with state := .draining }
  let l := s.park.filter (·.aperture = n)
  let v := l.foldl abortSlot u
  have done : exec (.closeAperture n) s = .next (drainTest n v) :=
    (exec_closeAperture high n).trans (congrArg _ (closeCommand_of_busy live busy))
  have begun (o : ApertureId) : u.aperture o =
      if o = n then { s.aperture n with state := .draining, lastResult := .closed } else s.aperture o := by
    by_cases same : o = n <;> simp [u, setResult, same]
  have settling : Settling (fun k => [⟨k.tag, .aborted⟩]) (fun _ => []) ParkSlot.dropHole l u v :=
    Settling.foldl (I := fun _ => True) trivial fun w _ k _ => ⟨settling_abortSlot w k, trivial⟩
  have aborted : Aborted n l.length u v := aborted_foldl (fun k mem => by simpa using (List.mem_filter.1 mem).2) u
  have own : v.aperture n = { s.aperture n with
      state := .draining, lastResult := .closed, count := (s.aperture n).count - s.park.countP (·.aperture = n) } := by
    rw [aborted.aperture, if_pos rfl, begun, if_pos rfl, List.countP_eq_length_filter]
  have others (o : ApertureId) (other : o ≠ n) : v.aperture o = s.aperture o := by
    rw [aborted.aperture, if_neg other, begun, if_neg other]
  have park : v.park = s.park.filter (·.aperture ≠ n) := by
    rw [settling.park]
    refine (law.filter_left (·.aperture = n)).trans (List.filter_congr fun k _ => ?_)
    exact (decide_not ..).symm
  have ports (m : Master) : v.port m = { s.port m with completions := (s.port m).completions ++
      if (s.port m).state = .resetting then []
      else (s.park.filter (fun k => k.aperture = n ∧ k.master = m)).map fun k => ⟨k.tag, .aborted⟩ } := by
    have mine : (l.filter (·.master = m)).flatMap (fun k => [(⟨k.tag, .aborted⟩ : Completion)]) =
        (s.park.filter (fun k => k.aperture = n ∧ k.master = m)).map fun k => ⟨k.tag, .aborted⟩ := by
      rw [List.filter_filter]
      refine (List.flatMap_pure_eq_map _ _).trans (congrArg _ (List.filter_congr fun k _ => ?_))
      rw [Bool.decide_and, Bool.and_comm]
    rw [settling.ports, mine]
    rfl
  have queues (m : Master) : v.queue m = { s.queue m with
      writes := (s.park.filter (fun k => k.aperture = n ∧ k.master = m ∧ k.kind = .write)).foldl
        (fun l k => l.eraseP (fun e => e.state = .untranslated ∧ e.tag = k.tag)) (s.queue m).writes } := by
    have mine : l.filter (fun k => k.master = m ∧ k.kind = .write) =
        s.park.filter fun k => k.aperture = n ∧ k.master = m ∧ k.kind = .write := by
      rw [List.filter_filter]
      refine List.filter_congr fun k _ => ?_
      rw [Bool.decide_and (k.aperture = n), Bool.and_comm]
    rw [settling.queue_of_drop, mine]
    rfl
  have frame : v = { s with
      apertures := v.apertures, ports := v.ports, queues := v.queues, park := v.park
      pageCache := v.pageCache, dirCache := v.dirCache, causes := v.causes } := by
    have all := settling.frame.same
    rw [aborted.log, aborted.overflow, aborted.count] at all
    exact all
  have shared : v.park = s.park.filter (·.aperture ≠ n) ∧
      (∀ m, (s.port m).state ≠ .resetting → v.port m = { s.port m with
        completions := (s.port m).completions ++
          (s.park.filter (fun k => k.aperture = n ∧ k.master = m)).map (fun k => ⟨k.tag, .aborted⟩) }) ∧
      (∀ m, (s.port m).state = .resetting → v.port m = s.port m) ∧
      (∀ m, (v.queue m).reads = (s.queue m).reads ∧
        (v.queue m).writes =
          (s.park.filter (fun k => k.aperture = n ∧ k.master = m ∧ k.kind = .write)).foldl
            (fun l k => l.eraseP (fun e => e.state = .untranslated ∧ e.tag = k.tag)) (s.queue m).writes ∧
        (RequestLaw s → (v.queue m).writes =
          (s.queue m).writes.filter (fun e => ¬ (e.state = .untranslated ∧ e.aperture = n)))) := by
    refine ⟨park, fun m live => ?_, fun m resetting => ?_, fun m => ⟨?_, ?_, fun requests => ?_⟩⟩
    · rw [ports, if_neg live]
    · rw [ports, if_pos resetting, List.append_nil]
    · rw [queues]
    · rw [queues]
    · rw [queues]
      exact requests.foldl_dropHoles m n
  obtain ⟨parked, lives, resets, rest⟩ := shared
  cases drained : v.drained n with
  | false =>
    rw [drainTest_of_not_due fun due => Bool.eq_false_iff.1 drained due.2] at done
    exact ⟨v, done, by rw [own], .inl ⟨by rw [own], drained, aborted.causes, aborted.pages, aborted.dirs⟩, by rw [own], others,
      parked, lives, resets, rest, frame⟩
  | true =>
    rw [drainTest_of_due ⟨by rw [own], drained⟩] at done
    have closed (o : ApertureId) := closeNow_aperture n o v
    have own' := (closed n).trans (if_pos rfl)
    have still : (closeNow n v).drained n = true := 
      (State.drained_congr (s := v) (t := closeNow n v) (by rw [own']) rfl).trans drained
    refine ⟨closeNow n v, done, by rw [own', own], .inr ⟨by rw [own'], still, ?_, ?_, ?_⟩, by rw [own', own],
      fun o other => ?_, parked, lives, resets, rest, (congrArg (closeNow n) frame).trans rfl⟩
    · exact congrArg (· ||| 0x008#10) aborted.causes
    · rw [← filter_aperture_ne]
      exact congrArg (List.filter (·.aperture != n)) aborted.pages
    · rw [← filter_aperture_ne]
      exact congrArg (List.filter (·.aperture != n)) aborted.dirs
    · rw [closed, if_neg other, others o other]

end Sys2Proof.Machine

/-! PROOFS. The waiters of a judged walk, settled one after another (sections 4.5, 6.2, R23, R77, R78, R110, R112, R118). -/

namespace Sys2Proof.Machine

/-! ## One waiter that fails -/

/-- What the faults of `j` requests of the aperture `n`, which is Open or Halted, leave of the descriptors and the caches. -/
structure Faulted (n : ApertureId) (j : Nat) (s t : State) : Prop where
  aperture : ∀ o, t.aperture o = if o = n then { s.aperture n with
      count := (s.aperture n).count - j
      state := if (s.aperture n).haltOnFault = true ∧ j ≠ 0 then .halted else (s.aperture n).state }
    else s.aperture o
  pages : t.pageCache = s.pageCache
  dirs : t.dirCache = s.dirCache

theorem Faulted.refl (n : ApertureId) (s : State) : Faulted n 0 s s where
  aperture o := by
    by_cases same : o = n
    · simp [same]
    · simp [same]
  pages := rfl
  dirs := rfl

theorem Faulted.trans {n : ApertureId} {i j : Nat} {s t u : State} (h : Faulted n i s t) (h' : Faulted n j t u) :
    Faulted n (i + j) s u where
  aperture o := by
    rw [h'.aperture, h.aperture, h.aperture]
    by_cases same : o = n
    · simp only [same, if_true, Nat.sub_sub, Aperture.mk.injEq, true_and, and_true]
      by_cases halts : (s.aperture n).haltOnFault = true <;> by_cases first : i = 0 <;> by_cases then' : j = 0 <;>
        simp [halts, first, then']
    · simp only [same, if_false]
  pages := h'.pages.trans h.pages
  dirs := h'.dirs.trans h.dirs

/-- The bits of the halt that a fault brings about (R23). -/
def Aperture.haltCauses (a : Aperture) (j : Nat) : BitVec 10 :=
  if a.haltOnFault = true ∧ a.state = .opened ∧ j ≠ 0 then 0x010 else 0

theorem Faulted.haltCauses {n : ApertureId} {i j : Nat} {s t : State} (h : Faulted n i s t) :
    (s.aperture n).haltCauses i ||| (t.aperture n).haltCauses j = (s.aperture n).haltCauses (i + j) := by
  rw [h.aperture, if_pos rfl]
  unfold Aperture.haltCauses
  by_cases halts : (s.aperture n).haltOnFault = true <;> by_cases opened : (s.aperture n).state = .opened <;>
    by_cases first : i = 0 <;> by_cases then' : j = 0 <;> simp [halts, opened, first, then']

/-- An aperture that takes part in settlements: Open or Halted. -/
def Aperture.live (a : Aperture) : Prop := a.state = .opened ∨ a.state = .halted

theorem Aperture.live.not_draining {a : Aperture} (live : a.live) : a.state ≠ .draining := by
  obtain opened | halted := live
  · simp [opened]
  · simp [halted]

theorem Faulted.live {n : ApertureId} {j : Nat} {s t : State} (h : Faulted n j s t) (live : (s.aperture n).live) :
    (t.aperture n).live := by
  rw [h.aperture, if_pos rfl, Aperture.live]
  split
  · exact .inr rfl
  · exact live

/-- A slot that leaves a live aperture with a fault, and the halt that it may cause. -/
theorem fault_faulted {k : ParkSlot} {s : State} (live : (s.aperture k.aperture).live) (status : CompletionStatus) :
    Faulted k.aperture 1 s (haltOnFault k.aperture (leaveSlot k status s)) ∧
      SameLog ((s.aperture k.aperture).haltCauses 1) (haltOnFault k.aperture (leaveSlot k status s)) s := by
  let v := freeSlot k.num (dropParkedWrite k (pushCompletion k.master ⟨k.tag, status⟩ s))
  have same (o : ApertureId) : v.aperture o = s.aperture o := by simp [v]
  have left : leaveSlot k status s = lowerCount k.aperture v := by
    rw [leaveSlot, retire_of_live]
    rw [same]
    exact live.not_draining
  have count (o : ApertureId) : (leaveSlot k status s).aperture o =
      if o = k.aperture then { s.aperture k.aperture with count := (s.aperture k.aperture).count - 1 } else s.aperture o := by
    rw [left, lowerCount_aperture, same, same]
  have own := (count k.aperture).trans (if_pos rfl)
  refine ⟨⟨fun o => ?_, ?_, ?_⟩, ⟨?_, ?_, ?_, ?_⟩⟩
  · rw [haltOnFault_aperture, own, count]
    by_cases other : o = k.aperture
    · by_cases halts : (s.aperture k.aperture).haltOnFault = true
      · obtain opened | halted := live
        · simp [other, halts, opened]
        · simp [other, halts, halted]
      · simp [other, halts]
    · simp [other]
  · simp [left, v]
  · simp [left, v]
  · simp [left, v]
  · simp [left, v]
  · simp [left, v]
  · have causes : (leaveSlot k status s).causes = s.causes := by simp [left, v]
    rw [haltOnFault, own, Aperture.haltCauses]
    by_cases halts : (s.aperture k.aperture).haltOnFault = true ∧ (s.aperture k.aperture).state = .opened
    · obtain ⟨on, opened⟩ := halts
      simp [on, opened, setCause, Cause.mask, causes]
    · rw [if_neg (by simpa using halts), if_neg fun h => halts ⟨h.1, h.2.1⟩, causes]
      simp

/-! ## One waiter, served or faulted -/

/-- A waiter is settled by the outcome of its checks: it is served with the physical address `phys k`, or it is faulted and the
report `rep` is made. -/
def settleWaiter (outcome : ParkSlot → Option TransFault) (phys : ParkSlot → Nat) (rep : State → ParkSlot → State) (s : State)
    (k : ParkSlot) : State :=
  match outcome k with
  | none => passWaiter k (BitVec.ofNat 36 (phys k)) s
  | some kind => haltOnFault k.aperture (leaveSlot k (.fault kind) (rep s k))

/-- The report of the waiters that fail. -/
def reportFailed (outcome : ParkSlot → Option TransFault) (rep : State → ParkSlot → State) (s : State) (k : ParkSlot) : State :=
  match outcome k with
  | none => s
  | some _ => rep s k

/-- A report writes the log, its flag, the causes and the free values, and looks at these alone. -/
structure Reporting (rep : State → ParkSlot → State) : Prop where
  writes : ∀ s k, ∃ log overflow causes count,
    rep s k = { s with log := log, overflow := overflow, causes := causes, freeCount := count }
  blind : ∀ {x s u} k, SameLog x s u → SameLog x (rep s k) (rep u k)

theorem Reporting.frame {rep : State → ParkSlot → State} (reporting : Reporting rep) (s : State) (k : ParkSlot) :
    SlotFrame s (rep s k) ∧ (rep s k).ports = s.ports ∧ (rep s k).queues = s.queues ∧ (rep s k).park = s.park ∧
      (rep s k).apertures = s.apertures ∧ (rep s k).pageCache = s.pageCache ∧ (rep s k).dirCache = s.dirCache := by
  obtain ⟨_, _, _, _, same⟩ := reporting.writes s k
  rw [same]
  exact ⟨⟨_, _, _, _, _, _, _, _, _, _, rfl⟩, rfl, rfl, rfl, rfl, rfl, rfl⟩

/-- The completions that a waiter receives. -/
def outcomeCompletions (outcome : ParkSlot → Option TransFault) (posting : Bool) (k : ParkSlot) : List Completion :=
  match outcome k with
  | some kind => [⟨k.tag, .fault kind⟩]
  | none => if k.kind = .write ∧ posting = true then [⟨k.tag, .okayWrite⟩] else []

/-- The read issue entry of a read that is served. -/
def outcomeReads (outcome : ParkSlot → Option TransFault) (phys : ParkSlot → Nat) (k : ParkSlot) : List ReadEntry :=
  match k.kind, outcome k with
  | .read, none => [⟨k.tag, k.arrival, k.address, BitVec.ofNat 36 (phys k), k.length, k.aperture, false⟩]
  | _, _ => []

/-- What becomes of the Untranslated entry of a write. -/
def outcomeEntry (outcome : ParkSlot → Option TransFault) (phys : ParkSlot → Nat) (posting : Bool) (k : ParkSlot)
    (l : List WriteEntry) : List WriteEntry :=
  match outcome k with
  | none => updateFirst (fun e => e.state = .untranslated ∧ e.tag = k.tag)
      (fun e => { e with state := .translated (BitVec.ofNat 36 (phys k)), posted := posting }) l
  | some _ => l.eraseP fun e => e.state = .untranslated ∧ e.tag = k.tag

/-- A master's writes, of which a write that is settled changes its entry. -/
def outcomeWrites (outcome : ParkSlot → Option TransFault) (phys : ParkSlot → Nat) (posting : Bool) (k : ParkSlot)
    (l : List WriteEntry) : List WriteEntry :=
  if k.kind = .write then outcomeEntry outcome phys posting k l else l

theorem WriteEntry.isHole_eq (t : Tag) : WriteEntry.isHole t = fun e => decide (e.state = .untranslated ∧ e.tag = t) := by
  funext e
  simp [WriteEntry.isHole]

theorem slotFrame_passWaiter (k : ParkSlot) (p : PhysAddr) (s : State) : SlotFrame s (passWaiter k p s) := by
  cases kind : k.kind with
  | read =>
    rw [passWaiter_of_read kind]
    exact (slotFrame_setQueue _ _ s).trans (slotFrame_freeSlot _ _)
  | write =>
    rw [passWaiter_of_write kind]
    refine SlotFrame.trans ?_ (slotFrame_freeSlot _ _)
    have translated : SlotFrame s (translateHole k.master k.tag p (s.aperture k.aperture).posting s) := slotFrame_setQueue _ _ s
    refine translated.trans ?_
    unfold postOkay
    split
    · exact slotFrame_pushCompletion _ _ _
    · exact .refl _

section
variable {outcome : ParkSlot → Option TransFault} {phys : ParkSlot → Nat} {rep : State → ParkSlot → State}

theorem settleWaiter_of_pass {k : ParkSlot} (passes : outcome k = none) (s : State) :
    settleWaiter outcome phys rep s k = passWaiter k (BitVec.ofNat 36 (phys k)) s := by
  simp only [settleWaiter, passes]

theorem settleWaiter_of_fail {k : ParkSlot} {kind : TransFault} (fails : outcome k = some kind) (s : State) :
    settleWaiter outcome phys rep s k = haltOnFault k.aperture (leaveSlot k (.fault kind) (rep s k)) := by
  simp only [settleWaiter, fails]

theorem settling_settleWaiter (reporting : Reporting rep) (s : State) (k : ParkSlot) :
    Settling (outcomeCompletions outcome (s.aperture k.aperture).posting) (outcomeReads outcome phys)
      (outcomeWrites outcome phys (s.aperture k.aperture).posting) [k] s (settleWaiter outcome phys rep s k) := by
  cases result : outcome k with
  | some kind =>
    obtain ⟨frame, ports, queues, park, -, -, -⟩ := reporting.frame s k
    have port (m : Master) : (rep s k).port m = s.port m := congrArg (fun v : Vector Port 6 => v[m]) ports
    have queue (m : Master) : (rep s k).queue m = s.queue m := congrArg (fun v : Vector IssueQueues 6 => v[m]) queues
    rw [settleWaiter_of_fail result]
    refine .single (fun m => ?_) (fun m => ?_) (by simp [park])
      ((frame.trans (slotFrame_leaveSlot k _ _)).trans (slotFrame_haltOnFault _ _))
    · have given : outcomeCompletions outcome (s.aperture k.aperture).posting k = [⟨k.tag, .fault kind⟩] := by
        simp only [outcomeCompletions, result]
      rw [given, (haltOnFault_accessors _ _).1, leaveSlot_port, pushCompletion_port, port, port]
      by_cases own : m = k.master
      · subst own; rfl
      · simp [own]
    · have none : outcomeReads outcome phys k = [] := by
        simp only [outcomeReads, result]
        cases k.kind <;> rfl
      rw [none, (haltOnFault_accessors _ _).2.1, leaveSlot_queue, queue]
      by_cases own : m = k.master <;> by_cases write : k.kind = .write <;>
        simp [own, write, outcomeWrites, outcomeEntry, result, WriteEntry.isHole_eq]
  | none =>
    rw [settleWaiter_of_pass result]
    refine .single (fun m => ?_) (fun m => ?_) (passWaiter_park k _ s) (slotFrame_passWaiter k _ s)
    · cases kind : k.kind with
      | read =>
        rw [passWaiter_of_read kind]
        simp [outcomeCompletions, result, kind]
      | write =>
        rw [passWaiter_of_write kind]
        cases posting : (s.aperture k.aperture).posting with
        | false => simp [outcomeCompletions, result, postOkay]
        | true =>
          have given : outcomeCompletions outcome true k = [⟨k.tag, .okayWrite⟩] := by simp [outcomeCompletions, result, kind]
          rw [given]
          simp only [postOkay, if_true, freeSlot_accessors, pushCompletion_port, translateHole_accessors]
          by_cases own : m = k.master
          · subst own; rfl
          · simp [own]
    · cases kind : k.kind with
      | read =>
        have reads : outcomeReads outcome phys k =
            [⟨k.tag, k.arrival, k.address, BitVec.ofNat 36 (phys k), k.length, k.aperture, false⟩] := by
          simp only [outcomeReads, kind, result]
        have writes (w : List WriteEntry) : outcomeWrites outcome phys (s.aperture k.aperture).posting k w = w := by
          simp [outcomeWrites, kind]
        rw [reads, writes, passWaiter_of_read kind, freeSlot_queue, appendRead_queue]
        by_cases own : m = k.master
        · subst own; rfl
        · simp [own]
      | write =>
        have reads : outcomeReads outcome phys k = [] := by simp only [outcomeReads, kind, result]
        have writes (w : List WriteEntry) : outcomeWrites outcome phys (s.aperture k.aperture).posting k w =
            updateFirst (·.isHole k.tag) (fun e => { e with
              state := .translated (BitVec.ofNat 36 (phys k)), posted := (s.aperture k.aperture).posting }) w := by
          simp only [outcomeWrites, kind, if_true, outcomeEntry, result, WriteEntry.isHole_eq]
        rw [reads, writes, passWaiter_of_write kind, freeSlot_queue]
        simp only [postOkay_accessors, translateHole_queue, List.append_nil]
        by_cases own : m = k.master
        · subst own; rfl
        · simp [own]

theorem settleWaiter_faulted (reporting : Reporting rep) {s : State} {k : ParkSlot} (live : (s.aperture k.aperture).live) :
    Faulted k.aperture (if (outcome k).isSome then 1 else 0) s (settleWaiter outcome phys rep s k) ∧
      SameLog ((s.aperture k.aperture).haltCauses (if (outcome k).isSome then 1 else 0)) (settleWaiter outcome phys rep s k)
        (reportFailed outcome rep s k) := by
  cases result : outcome k with
  | some kind =>
    obtain ⟨-, -, -, -, apertures, pages, dirs⟩ := reporting.frame s k
    have same (o : ApertureId) : (rep s k).aperture o = s.aperture o := congrArg (fun v : Vector Aperture 8 => v[o]) apertures
    have faulted := fault_faulted (k := k) (s := rep s k) (by rw [same]; exact live) (.fault kind)
    rw [same] at faulted
    obtain ⟨⟨aperture, pages', dirs'⟩, logs⟩ := faulted
    rw [settleWaiter_of_fail result, show reportFailed outcome rep s k = rep s k by simp only [reportFailed, result]]
    refine ⟨⟨fun o => ?_, pages'.trans pages, dirs'.trans dirs⟩, logs⟩
    rw [aperture, same, same]
    rfl
  | none =>
    rw [settleWaiter_of_pass result, show reportFailed outcome rep s k = s by simp only [reportFailed, result]]
    have none' : (.none : Option TransFault).isSome = false := rfl
    simp only [none', Bool.false_eq_true, if_false]
    obtain ⟨-, -, apertures, pages, dirs, -⟩ := passWaiter_frame k (BitVec.ofNat 36 (phys k)) s
    refine ⟨⟨fun o => ?_, pages, dirs⟩, ?_, ?_, ?_, ?_⟩
    · have same : (passWaiter k (BitVec.ofNat 36 (phys k)) s).aperture o = s.aperture o :=
        congrArg (fun v : Vector Aperture 8 => v[o]) apertures
      rw [same]
      exact (Faulted.refl k.aperture s).aperture o
    · simp
    · simp
    · simp
    · simp [Aperture.haltCauses]

/-! ## Waiters one after another -/

/-- What the checks of a waiter of the aperture `n` look at, as it is in `s`. -/
def SameMap (n : ApertureId) (s u : State) : Prop :=
  u.regions = s.regions ∧ ∃ count state, u.aperture n = { s.aperture n with count := count, state := state }

theorem SameMap.trans {n : ApertureId} {s t u : State} (h : SameMap n s t) (h' : SameMap n t u) : SameMap n s u := by
  obtain ⟨regions, _, _, aperture⟩ := h
  obtain ⟨regions', _, _, aperture'⟩ := h'
  exact ⟨regions'.trans regions, _, _, by rw [aperture', aperture]⟩

/-- The waiters of the list `l`, all of the aperture `n`, are settled one after another. -/
structure WaitersSettled (outcome : ParkSlot → Option TransFault) (phys : ParkSlot → Nat) (rep : State → ParkSlot → State)
    (n : ApertureId) (l : List ParkSlot) (s t : State) : Prop where
  settling : Settling (outcomeCompletions outcome (s.aperture n).posting) (outcomeReads outcome phys)
    (outcomeWrites outcome phys (s.aperture n).posting) l s t
  faulted : Faulted n (l.countP fun k => (outcome k).isSome) s t
  logs : SameLog ((s.aperture n).haltCauses (l.countP fun k => (outcome k).isSome)) t (l.foldl (reportFailed outcome rep) s)

theorem reportFailed_blind (reporting : Reporting rep) {x : BitVec 10} (s u : State) (k : ParkSlot) (same : SameLog x s u) :
    SameLog x (reportFailed outcome rep s k) (reportFailed outcome rep u k) := by
  unfold reportFailed
  split
  · exact same
  · exact reporting.blind k same

/-- Waiters that `f` settles by their outcome, as long as what their checks look at stays. -/
theorem foldl_waitersSettled (reporting : Reporting rep) {f : State → ParkSlot → State} {n : ApertureId} {l : List ParkSlot}
    {s : State} (agrees : ∀ u, SameMap n s u → ∀ k ∈ l, f u k = settleWaiter outcome phys rep u k)
    (own : ∀ k ∈ l, k.aperture = n) (live : (s.aperture n).live) :
    WaitersSettled outcome phys rep n l s (l.foldl f s) := by
  induction l generalizing s with
  | nil => exact ⟨.refl s, .refl n s, rfl, rfl, rfl, by simp [Aperture.haltCauses]⟩
  | cons k l ih =>
    obtain rfl := own k List.mem_cons_self
    have settling := settling_settleWaiter (outcome := outcome) (phys := phys) reporting s k
    obtain ⟨faulted, logs⟩ := settleWaiter_faulted (outcome := outcome) (phys := phys) reporting live
    rw [List.foldl_cons, agrees s ⟨rfl, _, _, rfl⟩ k List.mem_cons_self]
    have first := (faulted.aperture k.aperture).trans (if_pos rfl)
    have map : SameMap k.aperture s (settleWaiter outcome phys rep s k) := ⟨settling.frame.regions, _, _, first⟩
    obtain ⟨settling', faulted', logs'⟩ := ih (fun u same x mem => agrees u (map.trans same) x (List.mem_cons_of_mem k mem))
      (fun x mem => own x (List.mem_cons_of_mem k mem)) (faulted.live live)
    have posting : ((settleWaiter outcome phys rep s k).aperture k.aperture).posting = (s.aperture k.aperture).posting := by
      rw [first]
    have before := SameLog.foldl (reportFailed_blind (outcome := outcome) reporting) l logs
    have failed : (k :: l).countP (fun k => (outcome k).isSome) =
        (if (outcome k).isSome then 1 else 0) + l.countP fun k => (outcome k).isSome := by
      rw [List.countP_cons, Nat.add_comm]
    rw [posting] at settling'
    refine ⟨settling.trans settling', failed ▸ faulted.trans faulted', logs'.log.trans before.log,
      logs'.overflow.trans before.overflow, logs'.count.trans before.count, ?_⟩
    rw [logs'.causes, before.causes, failed, ← faulted.haltCauses, BitVec.or_assoc]
    rfl

end

end Sys2Proof.Machine

/-! PROOFS. The judged completion of a walk, by the outcomes of its waiters (R51 to R53, R64, R70, R77 to R79). -/

namespace Sys2Proof.Machine

/-! ## The fill of the page cache -/

/-- The pin that a fill of `rest` asks for in vain (R53). -/
def limitCauses (keep : Bool) (rest : List PageEntry) : BitVec 10 := if keep = true ∧ 8 ≤ pinnedCount rest then 0x100 else 0

theorem fillPage_of_live {s : State} {n : ApertureId} (live : (s.aperture n).live) (page : Nat) (f : Frame)
    (access : MapAccess) (keep : Bool) : fillPage n page f access keep s = { s with
      pageCache := makeRoom n page s.pageCache ++
        [⟨n, page, f, access, keep && decide (pinnedCount (makeRoom n page s.pageCache) < 8)⟩]
      causes := s.causes ||| limitCauses keep (makeRoom n page s.pageCache) } := by
  have taken : ((s.aperture n).state = .opened || (s.aperture n).state = .halted : Bool) = true := by
    simpa [Aperture.live] using live
  rw [fillPage, if_pos taken, limitCauses]
  dsimp only
  by_cases limited : keep = true ∧ 8 ≤ pinnedCount (makeRoom n page s.pageCache)
  · rw [if_pos limited, if_pos (by simpa using limited)]
    rfl
  · rw [if_neg limited, if_neg (by simpa using limited), show s.causes ||| (0 : BitVec 10) = s.causes by simp]

/-- What a fill of a new key leaves of the cache (R51, R52). -/
theorem makeRoom_of_new {n : ApertureId} {page : Nat} {l : List PageEntry}
    (new : ∀ e ∈ l, ¬ (e.aperture = n ∧ e.page = page)) :
    (l.length < 32 → makeRoom n page l = l) ∧
      (∀ pre v post, 32 ≤ l.length → l = pre ++ v :: post → v.pinned = false → (∀ e ∈ pre, e.pinned = true) →
        makeRoom n page l = pre ++ post) := by
  have none : l.any (·.hasKey n page) = false := by
    rw [List.any_eq_false]
    intro e mem
    simpa [PageEntry.hasKey] using new e mem
  rw [makeRoom, none]
  simp only [Bool.false_eq_true, if_false]
  refine ⟨fun few => if_pos few, fun pre v post full split free pinned => ?_⟩
  rw [if_neg (not_lt.2 full), evictPage, split, List.eraseP_append_right _ fun e mem => by simp [pinned e mem],
    List.eraseP_cons_of_pos (by simp [free])]

/-! ## The two ways to settle the waiters -/

/-- The report of a failed check of a waiter whose address in memory is `phys k`. -/
def reportWaiter (outcome : ParkSlot → Option TransFault) (phys : ParkSlot → Nat) (s : State) (k : ParkSlot) : State :=
  match outcome k with
  | some kind => reportCheck kind k.master k.tag k.aperture k.kind k.address (phys k / 4096) s
  | none => s

theorem reporting_reportWaiter (outcome : ParkSlot → Option TransFault) (phys : ParkSlot → Nat) :
    Reporting (reportWaiter outcome phys) where
  writes s k := by
    unfold reportWaiter
    split
    · rw [reportCheck_eq, report_eq]
      exact ⟨_, _, _, _, rfl⟩
    · exact ⟨_, _, _, _, rfl⟩
  blind k same := by
    unfold reportWaiter
    split
    · exact same.reportCheck _ _ _ _ _ _ _
    · exact same

theorem reportFailed_reportWaiter (outcome : ParkSlot → Option TransFault) (phys : ParkSlot → Nat) :
    reportFailed outcome (reportWaiter outcome phys) = reportWaiter outcome phys := by
  funext s k
  unfold reportFailed
  split
  · next passes => simp only [reportWaiter, passes]
  · rfl

/-- The record of a walk fault that a waiter receives. -/
abbrev walkFaultRecord (wf : WalkFault) (k : ParkSlot) : FaultRecord :=
  ⟨.translation (walkFaultKind wf), k.master, k.tag, some k.aperture, k.kind, k.address, walkFaultFrame wf, 1⟩

/-- The report of a walk fault that a waiter receives. -/
def reportWalkFault (wf : WalkFault) (s : State) (k : ParkSlot) : State := report (walkFaultRecord wf k) s

/-- A walk fault is the outcome of every waiter. -/
def walkFaultOutcome (wf : WalkFault) (_ : ParkSlot) : Option TransFault := some (walkFaultKind wf)

theorem reporting_reportWalkFault (wf : WalkFault) : Reporting (reportWalkFault wf) where
  writes s k := by
    rw [reportWalkFault, report_eq]
    exact ⟨_, _, _, s.freeCount, rfl⟩
  blind k same := same.report _

/-- The outcome of a waiter's checks after a walk that succeeded. -/
def State.outcome (s : State) (access : MapAccess) (phys : ParkSlot → Nat) (k : ParkSlot) : Option TransFault :=
  s.check k.kind access (phys k / 4096)

/-- The waiters of a walk that succeeded. -/
theorem foldl_serveWaiter {s : State} {n : ApertureId} {l : List ParkSlot} {f : Frame} {access : MapAccess}
    {phys : ParkSlot → Nat} {outcome : ParkSlot → Option TransFault}
    (address : ∀ k, (s.aperture n).walkedAddress f k.address = phys k) (checked : s.outcome access phys = outcome)
    (own : ∀ k ∈ l, k.aperture = n) (live : (s.aperture n).live) :
    WaitersSettled outcome phys (reportWaiter outcome phys) n l s (l.foldl (serveWaiter f access) s) := by
  refine foldl_waitersSettled (reporting_reportWaiter _ _) (fun u same k mem => ?_) own live
  obtain ⟨regions, count, state, aperture⟩ := same
  have checks (kind : AccessKind) (frame : Nat) : u.check kind access frame = s.check kind access frame := by
    simp only [State.check, State.regionCheck, State.classify, regions]
  have walked : (u.aperture k.aperture).walkedAddress f k.address = phys k := by
    rw [own k mem, aperture]
    exact address k
  have result : s.check k.kind access (phys k / 4096) = outcome k := congrFun checked k
  rw [serveWaiter_eq, walked, checks, result]
  cases passes : outcome k with
  | none => exact (settleWaiter_of_pass passes u).symm
  | some kind =>
    rw [settleWaiter_of_fail passes]
    simp only [reportWaiter, passes]

/-- The waiters of a walk that failed. -/
theorem foldl_faultByWalk {s : State} {n : ApertureId} {l : List ParkSlot} (wf : WalkFault) (phys : ParkSlot → Nat)
    (own : ∀ k ∈ l, k.aperture = n) (live : (s.aperture n).live) :
    WaitersSettled (walkFaultOutcome wf) phys (reportWalkFault wf) n l s (l.foldl (faultByWalk wf) s) :=
  foldl_waitersSettled (reporting_reportWalkFault wf)
    (fun u _ k _ => by rw [faultByWalk_eq, settleWaiter_of_fail (kind := walkFaultKind wf) rfl, reportWalkFault]) own live

/-! ## The completion -/

/-- A judged walk of a live aperture whose waiters are settled offers its context to the Queued slots. -/
theorem exec_walkCompletion_of_settled {s x : State} {c : ContextId} {w : Walk} {r : WalkResult} (high : s.resetLow = false)
    (waits : s.awaits c w) (judged : judgeWalk c w r s = (x.setContext c none, true)) (frame : SlotFrame s x)
    (live : (x.aperture w.aperture).live) :
    exec (.walkCompletion c r) s = exec (.takeover c) (x.setContext c none) ∧
      ((∀ k ∈ s.park, k.placement ≠ .queued) → (∀ k ∈ x.park, k ∈ s.park) →
        exec (.walkCompletion c r) s = .next (x.setContext c none)) := by
  have high' : x.resetLow = false := (congrArg State.resetLow frame.same :).trans high
  have quiet : idleReport w.aperture (x.setContext c none) = x.setContext c none :=
    drainTest_of_not_due fun due => live.not_draining due.1
  have offered : exec (.takeover c) (x.setContext c none) = .next (takeover x.park.length c (x.setContext c none)) :=
    exec_takeover (s := x.setContext c none) high' (by simp)
  have completed : exec (.walkCompletion c r) s = .next (takeover x.park.length c (x.setContext c none)) := by
    rw [exec_walkCompletion high waits, completeWalk_of_ended waits.1 judged, quiet]
    rfl
  refine ⟨completed.trans offered.symm, fun free inside => completed.trans ?_⟩
  rw [takeover_of_none_queued (s := x.setContext c none) fun k mem => free k (inside k mem)]

/-- What the completion of a judged walk in context `c`, of the aperture `n`, leaves, when its waiters are the slots `l`, the
page cache has become `p`, and this has set the causes `x`. -/
structure WalkSettled (outcome : ParkSlot → Option TransFault) (phys : ParkSlot → Nat) (rep : State → ParkSlot → State)
    (c : ContextId) (n : ApertureId) (l : List ParkSlot) (p : List PageEntry) (x : BitVec 10) (s t : State) : Prop where
  ports : ∀ m, t.port m = { s.port m with completions := (s.port m).completions ++ if (s.port m).state = .resetting then []
    else (l.filter (·.master = m)).flatMap (outcomeCompletions outcome (s.aperture n).posting) }
  reads : ∀ m, (t.queue m).reads = (s.queue m).reads ++ (l.filter (·.master = m)).flatMap (outcomeReads outcome phys)
  writes : ∀ m, (t.queue m).writes = (l.filter fun k => k.master = m ∧ k.kind = .write).foldl
    (fun w k => outcomeEntry outcome phys (s.aperture n).posting k w) (s.queue m).writes
  faulted : ∀ o, t.aperture o = if o = n then { s.aperture n with
      count := (s.aperture n).count - l.countP fun k => (outcome k).isSome
      state := if (s.aperture n).haltOnFault = true ∧ (l.countP fun k => (outcome k).isSome) ≠ 0 then .halted
        else (s.aperture n).state }
    else s.aperture o
  pages : t.pageCache = p
  logs : SameLog ((s.aperture n).haltCauses (l.countP fun k => (outcome k).isSome) ||| x) t
    (l.foldl (reportFailed outcome rep) s)
  park : t.park = s.park.filter fun k => l.all fun j => k.num != j.num
  context : ∀ d, t.context d = if d = c then none else s.context d
  frame : t = { s with
    contexts := t.contexts, park := t.park, pageCache := t.pageCache, apertures := t.apertures, ports := t.ports
    queues := t.queues, log := t.log, overflow := t.overflow, causes := t.causes, freeCount := t.freeCount }

theorem foldl_outcomeWrites (outcome : ParkSlot → Option TransFault) (phys : ParkSlot → Nat) (posting : Bool) (m : Master)
    (l : List ParkSlot) (w : List WriteEntry) :
    (l.filter (·.master = m)).foldl (fun w k => outcomeWrites outcome phys posting k w) w =
      (l.filter fun k => k.master = m ∧ k.kind = .write).foldl (fun w k => outcomeEntry outcome phys posting k w) w := by
  have chosen : (l.filter fun k => k.master = m ∧ k.kind = .write) =
      (l.filter (·.master = m)).filter (·.kind = .write) := by
    rw [List.filter_filter]
    exact List.filter_congr fun k _ => by simp [and_comm]
  rw [chosen, List.foldl_filter (l := l.filter (·.master = m))]
  simp only [decide_eq_true_eq, outcomeWrites]

theorem WaitersSettled.walkSettled {outcome : ParkSlot → Option TransFault} {phys : ParkSlot → Nat}
    {rep : State → ParkSlot → State} {n : ApertureId} {l : List ParkSlot} {p : List PageEntry} {x : BitVec 10} {s u t : State}
    (settled : WaitersSettled outcome phys rep n l u t) (filled : u = { s with pageCache := p, causes := s.causes ||| x })
    (reporting : Reporting rep) (c : ContextId) : WalkSettled outcome phys rep c n l p x s (t.setContext c none) := by
  subst filled
  obtain ⟨⟨ports, queues, park, frame⟩, ⟨aperture, pages, dirs⟩, log, overflow, count, causes⟩ := settled
  have before := SameLog.foldl (reportFailed_blind (outcome := outcome) reporting) l
    (show SameLog x { s with pageCache := p, causes := s.causes ||| x } s from ⟨rfl, rfl, rfl, rfl⟩)
  refine ⟨fun m => ports m, fun m => ?_, fun m => ?_, aperture, pages, ⟨log.trans before.log, overflow.trans before.overflow,
    count.trans before.count, ?_⟩, park, fun d => ?_, ?_⟩
  · exact congrArg IssueQueues.reads (queues m)
  · exact (congrArg IssueQueues.writes (queues m)).trans (foldl_outcomeWrites outcome phys _ m l _)
  · refine causes.trans ?_
    rw [before.causes, BitVec.or_assoc, BitVec.or_comm x]
    rfl
  · have contexts : t.context d = s.context d := congrArg (fun v : Vector (Option Walk) 2 => v[d]) frame.contexts
    simp [contexts]
  · have same := frame.same
    have dirs' : t.dirCache = s.dirCache := dirs
    rw [dirs'] at same
    have contexts : (t.setContext c none).contexts = t.contexts.set c none := rfl
    rw [contexts]
    exact congrArg (fun u : State => { u with contexts := t.contexts.set c none }) same

section
variable {s : State} {c : ContextId} {w : Walk}

/-- A judged walk of a live aperture, with waiters, whose settlement is known. -/
theorem exec_walkCompletion_of_walkSettled {r : WalkResult} {x : State} {outcome : ParkSlot → Option TransFault}
    {phys : ParkSlot → Nat} {rep : State → ParkSlot → State} {p : List PageEntry} {y : BitVec 10} (high : s.resetLow = false)
    (waits : s.awaits c w) (fresh : w.stale = false) (waited : ∃ k ∈ s.park, k.placement = .waiting c)
    (live : (s.aperture w.aperture).live) (settles : settleWalk c w r s = (x.setContext c none, true))
    (frame : SlotFrame s x)
    (settled : WalkSettled outcome phys rep c w.aperture (s.waiters c) p y s (x.setContext c none)) :
    ∃ t, exec (.walkCompletion c r) s = exec (.takeover c) t ∧
      ((∀ k ∈ s.park, k.placement ≠ .queued) → exec (.walkCompletion c r) s = .next t) ∧
      WalkSettled outcome phys rep c w.aperture (s.waiters c) p y s t := by
  have judged := judgeWalk_of_wanted r waited live.not_draining
  rw [fresh] at judged
  have aperture : x.aperture w.aperture = _ := (settled.faulted w.aperture).trans (if_pos rfl)
  have live' : (x.aperture w.aperture).live := by
    rw [aperture, Aperture.live]
    split
    · exact .inr rfl
    · exact live
  obtain ⟨offered, ended⟩ := exec_walkCompletion_of_settled high waits (judged.trans settles) frame live'
  refine ⟨_, offered, fun none => ended none fun k mem => ?_, settled⟩
  have inside : k ∈ s.park.filter _ := settled.park ▸ mem
  exact (List.mem_filter.1 inside).1

variable (high : s.resetLow = false) (waits : s.awaits c w) (fresh : w.stale = false)
  (waited : ∃ k ∈ s.park, k.placement = .waiting c) (live : (s.aperture w.aperture).live)
  (own : ∀ k ∈ s.park, k.placement = .waiting c → k.aperture = w.aperture)
include high waits fresh waited live own

theorem exec_walkCompletion_of_success (f : Frame) (access : MapAccess) (keep : Bool) {phys : ParkSlot → Nat}
    {outcome : ParkSlot → Option TransFault} (address : ∀ k, (s.aperture w.aperture).walkedAddress f k.address = phys k)
    (checked : s.outcome access phys = outcome) :
    ∃ t, exec (.walkCompletion c (.success f access keep)) s = exec (.takeover c) t ∧
      ((∀ k ∈ s.park, k.placement ≠ .queued) → exec (.walkCompletion c (.success f access keep)) s = .next t) ∧
      WalkSettled outcome phys (reportWaiter outcome phys) c w.aperture (s.waiters c)
        (makeRoom w.aperture w.page s.pageCache ++ [⟨w.aperture, w.page, f, access,
          keep && decide (pinnedCount (makeRoom w.aperture w.page s.pageCache) < 8)⟩])
        (limitCauses keep (makeRoom w.aperture w.page s.pageCache)) s t := by
  let u := fillPage w.aperture w.page f access keep s
  have filled : u = _ := fillPage_of_live live w.page f access keep
  have settled : WaitersSettled outcome phys (reportWaiter outcome phys) w.aperture (s.waiters c) u
      ((s.waiters c).foldl (serveWaiter f access) u) := by
    rw [filled]
    refine foldl_serveWaiter address checked (fun k mem => ?_) live
    obtain ⟨inside, waiting⟩ := List.mem_filter.1 mem
    exact own k inside (of_decide_eq_true waiting)
  have before : SlotFrame s u := filled ▸ ⟨_, _, _, _, _, _, _, _, _, _, rfl⟩
  have slots : u.waiters c = s.waiters c := by rw [filled]; rfl
  refine exec_walkCompletion_of_walkSettled high waits fresh waited live ?_ (before.trans settled.settling.frame)
    (settled.walkSettled filled (reporting_reportWaiter _ _) c)
  rw [settleWalk]
  rw [slots]

theorem exec_walkCompletion_of_fault (wf : WalkFault) (phys : ParkSlot → Nat) :
    ∃ t, exec (.walkCompletion c (.fault wf)) s = exec (.takeover c) t ∧
      ((∀ k ∈ s.park, k.placement ≠ .queued) → exec (.walkCompletion c (.fault wf)) s = .next t) ∧
      WalkSettled (walkFaultOutcome wf) phys (reportWalkFault wf) c w.aperture (s.waiters c) s.pageCache 0 s t := by
  have settled := foldl_faultByWalk (l := s.waiters c) wf phys (fun k mem => by
    obtain ⟨inside, waiting⟩ := List.mem_filter.1 mem
    exact own k inside (of_decide_eq_true waiting)) live
  exact exec_walkCompletion_of_walkSettled high waits fresh waited live rfl settled.settling.frame
    (settled.walkSettled (by simp) (reporting_reportWalkFault wf) c)

end

end Sys2Proof.Machine

/-! PROOFS. Judged walks in the words of the statements (R51 to R53, R60, R70, R76 to R79, R110, R112, R118). -/

namespace Sys2Proof.Machine

theorem Aperture.causes_halted (a : Aperture) (j : Nat) (v : BitVec 10) : v ||| a.haltCauses j =
    if a.haltOnFault = true ∧ a.state = .opened ∧ j ≠ 0 then v ||| 0x010 else v := by
  rw [Aperture.haltCauses]
  split
  · rfl
  · simp

theorem causes_limited (keep : Bool) (rest : List PageEntry) (v : BitVec 10) : v ||| limitCauses keep rest =
    if keep = true ∧ 8 ≤ pinnedCount rest then v ||| 0x100 else v := by
  rw [limitCauses]
  split
  · rfl
  · simp

theorem noCauses (v : BitVec 10) : v ||| 0 = v := by simp

/-- Settles O43: the fold over the waiters, judged by their outcomes. -/
theorem judgedWalksSettleEveryWaiter : Obligations.JudgedWalksSettleEveryWaiter := by
  intro s c w r high walks unread fresh waited law judged live own a waiters phys outcome made logged failed causes
  have left : (s.park.filter fun k => (s.waiters c).all fun j => k.num != j.num) =
      s.park.filter fun k => k.placement ≠ .waiting c := by
    rw [State.waiters, law.filter_left]
    exact List.filter_congr fun k _ => by simp
  cases r with
  | discarded => exact absurd rfl judged
  | success f access keep =>
    obtain ⟨t, executed, ended, settled⟩ := exec_walkCompletion_of_success high ⟨walks, unread⟩ fresh waited live own f access
      keep (phys := phys f) (outcome := outcome) (fun _ => rfl) rfl
    have logs := settled.logs
    rw [reportFailed_reportWaiter] at logs
    refine ⟨t, executed, ended, fun m resetting => ?_, fun m running => ?_, fun m => ?_, fun m => ?_, logs.log, logs.overflow,
      logs.count, ?_, settled.park.trans left, settled.context, ⟨_, settled.pages, ?_, ?_⟩, fun n other => ?_, settled.frame⟩
    · rw [settled.ports, if_pos resetting, List.append_nil]
    · rw [settled.ports, if_neg running]
      rfl
    · rw [settled.reads]
      refine congrArg (fun g => (s.queue m).reads ++ (waiters.filter (·.master = m)).flatMap g) (funext fun k => ?_)
      unfold outcomeReads
      cases k.kind <;> cases outcome k <;> rfl
    · rw [settled.writes]
      refine congrArg (fun g => (waiters.filter _).foldl g (s.queue m).writes) (funext fun w => funext fun k => ?_)
      unfold outcomeEntry
      cases outcome k <;> rfl
    · exact (settled.faulted w.aperture).trans (if_pos rfl)
    · exact makeRoom_of_new
    · rw [logs.causes, ← BitVec.or_assoc, causes_limited, Aperture.causes_halted]
      rfl
    · exact (settled.faulted n).trans (if_neg other)
  | fault wf =>
    have failing : walkFaultOutcome wf = outcome := by
      funext k
      cases wf <;> rfl
    obtain ⟨t, executed, ended, settled⟩ := exec_walkCompletion_of_fault high ⟨walks, unread⟩ fresh waited live own wf
      fun _ => 0
    have logs := settled.logs
    have reports : waiters.foldl (reportFailed (walkFaultOutcome wf) (reportWalkFault wf)) s = logged := by
      refine congrArg (fun g => waiters.foldl g s) (funext fun u => funext fun k => ?_)
      cases wf <;> rfl
    rw [show s.waiters c = waiters from rfl, reports, failing] at logs
    rw [failing] at settled
    refine ⟨t, executed, ended, fun m resetting => ?_, fun m running => ?_, fun m => ?_, fun m => ?_, logs.log, logs.overflow,
      logs.count, ?_, settled.park.trans left, settled.context, ⟨settled.pages, ?_⟩, fun n other => ?_, settled.frame⟩
    · rw [settled.ports, if_pos resetting, List.append_nil]
    · rw [settled.ports, if_neg running]
      rfl
    · rw [settled.reads]
      refine congrArg (fun g => (s.queue m).reads ++ (waiters.filter (·.master = m)).flatMap g) (funext fun k => ?_)
      rw [← failing]
      cases kind : k.kind <;> simp [outcomeReads, walkFaultOutcome, kind]
    · rw [settled.writes]
      refine congrArg (fun g => (waiters.filter _).foldl g (s.queue m).writes) (funext fun w => funext fun k => ?_)
      rw [← failing]
      rfl
    · exact (settled.faulted w.aperture).trans (if_pos rfl)
    · exact logs.causes.trans ((congrArg _ (noCauses _)).trans (Aperture.causes_halted a failed _))
    · exact (settled.faulted n).trans (if_neg other)

/-! ## One waiter -/

section
variable {outcome : ParkSlot → Option TransFault} {phys : ParkSlot → Nat} {rep : State → ParkSlot → State} {c : ContextId}
  {n : ApertureId} {k : ParkSlot} {p : List PageEntry} {x : BitVec 10} {s t : State}

theorem filter_master_singleton (k : ParkSlot) (m : Master) :
    [k].filter (·.master = m) = if m = k.master then [k] else [] := by
  by_cases own : m = k.master
  · simp [own]
  · simp [own, Ne.symm own]

/-- The one waiter fails. -/
theorem WalkSettled.fail (settled : WalkSettled outcome phys rep c n [k] p x s t) (running : (s.port k.master).state ≠ .resetting)
    {kind : TransFault} (fails : outcome k = some kind) :
    (∀ o, t.port o = if o = k.master then { s.port o with
      completions := (s.port o).completions ++ [⟨k.tag, .fault kind⟩] } else s.port o) ∧
    (∀ o, t.queue o = if o = k.master ∧ k.kind = .write then { s.queue o with
      writes := (s.queue o).writes.eraseP (fun e => e.state = .untranslated ∧ e.tag = k.tag) } else s.queue o) ∧
    (∀ o, t.aperture o = if o = n then { s.aperture n with
      count := (s.aperture n).count - 1
      state := if (s.aperture n).haltOnFault = true then .halted else (s.aperture n).state } else s.aperture o) ∧
    t.log = (rep s k).log ∧ t.overflow = (rep s k).overflow ∧
    t.causes = (if (s.aperture n).haltOnFault = true ∧ (s.aperture n).state = .opened then (rep s k).causes ||| 0x010
      else (rep s k).causes) ||| x := by
  have one : [k].countP (fun k => (outcome k).isSome) = 1 := by simp [fails]
  have given : outcomeCompletions outcome (s.aperture n).posting k = [⟨k.tag, .fault kind⟩] := by
    simp only [outcomeCompletions, fails]
  have reads : outcomeReads outcome phys k = [] := by
    simp only [outcomeReads, fails]
    cases k.kind <;> rfl
  have writes (w : List WriteEntry) : outcomeEntry outcome phys (s.aperture n).posting k w =
      w.eraseP fun e => e.state = .untranslated ∧ e.tag = k.tag := by
    simp only [outcomeEntry, fails]
  have logs := settled.logs
  have reported : [k].foldl (reportFailed outcome rep) s = rep s k := by
    simp only [List.foldl_cons, List.foldl_nil, reportFailed, fails]
  rw [reported, one] at logs
  refine ⟨fun o => ?_, fun o => ?_, fun o => ?_, logs.log, logs.overflow, ?_⟩
  · rw [settled.ports, filter_master_singleton]
    by_cases own : o = k.master
    · subst own
      simp [running, given]
    · simp [own]
  · have queue : t.queue o = ⟨(t.queue o).reads, (t.queue o).writes⟩ := rfl
    rw [queue, settled.reads, settled.writes, filter_master_singleton]
    by_cases own : o = k.master
    · subst own
      by_cases write : k.kind = .write
      · simp [reads, write, writes]
      · simp [reads, write]
    · simp [own, Ne.symm own]
  · rw [settled.faulted, one]
    simp
  · rw [logs.causes, ← BitVec.or_assoc, Aperture.causes_halted]
    simp

/-- The one waiter passes. -/
theorem WalkSettled.pass (settled : WalkSettled outcome phys rep c n [k] p x s t) (running : (s.port k.master).state ≠ .resetting)
    (passes : outcome k = none) :
    (∀ o, t.aperture o = s.aperture o) ∧ t.causes = s.causes ||| x ∧
    (∀ o, t.port o = if o = k.master ∧ k.kind = .write ∧ (s.aperture n).posting = true then { s.port o with
      completions := (s.port o).completions ++ [⟨k.tag, .okayWrite⟩] } else s.port o) ∧
    (∀ o, t.queue o = if o = k.master then ⟨(s.queue o).reads ++ outcomeReads outcome phys k,
      outcomeWrites outcome phys (s.aperture n).posting k (s.queue o).writes⟩ else s.queue o) := by
  have none' : [k].countP (fun k => (outcome k).isSome) = 0 := by simp [passes]
  have given : outcomeCompletions outcome (s.aperture n).posting k =
      if k.kind = .write ∧ (s.aperture n).posting = true then [⟨k.tag, .okayWrite⟩] else [] := by
    simp only [outcomeCompletions, passes]
  have reported : [k].foldl (reportFailed outcome rep) s = s := by
    simp only [List.foldl_cons, List.foldl_nil, reportFailed, passes]
  have logs := settled.logs
  rw [reported, none'] at logs
  refine ⟨fun o => ?_, ?_, fun o => ?_, fun o => ?_⟩
  · rw [settled.faulted, none']
    by_cases own : o = n
    · simp [own]
    · simp [own]
  · rw [logs.causes]
    simp [Aperture.haltCauses]
  · rw [settled.ports, filter_master_singleton]
    by_cases own : o = k.master
    · subst own
      by_cases posted : k.kind = .write ∧ (s.aperture n).posting = true
      · rw [if_pos rfl, if_neg running, if_pos ⟨rfl, posted⟩]
        simp [given, if_pos posted]
      · rw [if_pos rfl, if_neg running, if_neg fun h => posted h.2]
        simp [given, if_neg posted]
    · simp [own]
  · have queue : t.queue o = ⟨(t.queue o).reads, (t.queue o).writes⟩ := rfl
    rw [queue, settled.reads, settled.writes, filter_master_singleton]
    by_cases own : o = k.master
    · subst own
      by_cases write : k.kind = .write
      · simp [outcomeWrites, write]
      · simp [outcomeWrites, write]
    · simp [own, Ne.symm own]

end

/-- What the report of the one waiter writes, as the report of a record that carries the frame `f`. -/
theorem reportWaiter_record {outcome : ParkSlot → Option TransFault} {phys : ParkSlot → Nat} {k : ParkSlot} {kind : TransFault}
    (fails : outcome k = some kind) (s : State) :
    let f := if kind = .accessDenied then none else some (recordFrame (phys k / 4096) s).1
    let u := report ⟨.translation kind, k.master, k.tag, some k.aperture, k.kind, k.address, f, 1⟩ s
    (reportWaiter outcome phys s k).log = u.log ∧ (reportWaiter outcome phys s k).overflow = u.overflow ∧
      (reportWaiter outcome phys s k).causes = u.causes := by
  intro f u
  simp only [reportWaiter, fails]
  rw [reportCheck_eq]
  exact report_congr _ rfl rfl rfl

/-- The checks of an access give no NotValid. -/
theorem State.check_ne_notValid (s : State) (kind : AccessKind) (access : MapAccess) (frame : Nat) :
    s.check kind access frame ≠ some .notValid := by
  unfold State.check State.regionCheck
  by_cases permitted : permits access kind = true
  · rw [if_pos permitted]
    cases kind <;> cases s.classify frame <;> simp
  · rw [if_neg permitted]
    simp

/-- Settles O45: the list of waiters has one element. -/
theorem theWaiterOfAWalkIsServedOrFaulted : Obligations.TheWaiterOfAWalkIsServedOrFaulted := by
  intro s c w k r high walks unread fresh one aperture running live a phys keeps limited
  have waiters : s.waiters c = [k] := one
  have inside : k ∈ s.waiters c := waiters ▸ List.mem_singleton_self k
  obtain ⟨mem, waiting⟩ := List.mem_filter.1 inside
  have waited : ∃ k ∈ s.park, k.placement = .waiting c := ⟨k, mem, of_decide_eq_true waiting⟩
  have own (x : ParkSlot) (here : x ∈ s.park) (waits : x.placement = .waiting c) : x.aperture = w.aperture := by
    have only : x ∈ s.waiters c := List.mem_filter.2 ⟨here, decide_eq_true waits⟩
    rw [waiters, List.mem_singleton] at only
    rw [only, aperture]
  cases r with
  | discarded =>
    have judged := judgeWalk_of_wanted (w := w) .discarded waited (Aperture.live.not_draining live)
    rw [fresh] at judged
    have still : exec (.walkCompletion c .discarded) s = .next s := by
      rw [exec_walkCompletion high ⟨walks, unread⟩, completeWalk_of_still walks judged]
    have busy : exec (.takeover c) s = .next s := by
      dsimp only [exec, execTakeover]
      rw [whenReleased_of_high high, walks]
      rfl
    refine ⟨s, still.trans busy.symm, fun _ => still, ?_, ?_⟩
    · rintro _ _ _ ⟨⟩
    · rintro _ (⟨_, _, _, ⟨⟩, _⟩ | ⟨⟨⟩, _⟩ | ⟨_, ⟨⟩, _⟩ | ⟨_, ⟨⟩, _⟩ | ⟨_, ⟨⟩, _⟩)
  | success f access keep =>
    let address (j : ParkSlot) : Nat := f.toNat * 4096 + (j.address.toNat - a.base.toNat) % a.pageSize.bytes
    obtain ⟨t, executed, ended, settled⟩ := exec_walkCompletion_of_success high ⟨walks, unread⟩ fresh waited live own f access
      keep (phys := address) (fun _ => rfl) rfl
    rw [waiters] at settled
    have limit (v : BitVec 10) : v ||| limitCauses keep (makeRoom w.aperture w.page s.pageCache) = limited t v := by
      rw [causes_limited]
      simp only [limited, settled.pages, List.dropLast_concat]
      rfl
    refine ⟨t, executed, ended, ?_, fun kind failed => ?_⟩
    · rintro _ _ _ ⟨⟩ passes
      obtain ⟨apertures, causes, ports, queues⟩ := settled.pass running passes
      have passes' : s.outcome access address k = none := passes
      refine ⟨apertures, causes.trans (limit _), fun read => ⟨Vector.ext fun i small => ?_, fun o => ?_⟩, ?_⟩
      · exact (ports ⟨i, small⟩).trans (if_neg fun h => by simp [read] at h)
      · rw [queues]
        simp only [outcomeReads, outcomeWrites, read, passes', reduceCtorEq, if_false]
        rfl
      · intro front e back write split hole tag first
        refine ⟨fun o => ?_, fun o => ?_⟩
        · rw [queues]
          have changed : outcomeWrites (s.outcome access address) address a.posting k (s.queue k.master).writes =
              front ++ { e with state := .translated (BitVec.ofNat 36 (phys f)), posted := a.posting } :: back := by
            simp only [outcomeWrites, write, if_true, outcomeEntry, passes', split]
            exact updateFirst_of_split (fun x mem => by simpa using first x mem) (by simp [hole, tag])
          by_cases own : o = k.master
          · subst own
            rw [if_pos rfl, if_pos rfl, changed]
            simp [outcomeReads, write]
          · rw [if_neg own, if_neg own]
        · rw [ports]
          simp [write, a]
    · obtain ⟨_, _, _, ⟨⟩, fails⟩ | ⟨⟨⟩, _⟩ | ⟨_, ⟨⟩, _⟩ | ⟨_, ⟨⟩, _⟩ | ⟨_, ⟨⟩, _⟩ := failed
      obtain ⟨ports, queues, apertures, log, overflow, causes⟩ := settled.fail running fails
      have fails' : s.outcome access address k = some kind := fails
      obtain ⟨log', overflow', causes'⟩ := reportWaiter_record fails' s
      refine ⟨ports, queues, apertures, _, ?_, ?_, ?_, log.trans log', overflow.trans overflow', ?_⟩
      · rintro _ (⟨⟨⟩⟩ | ⟨⟨⟩⟩ | ⟨⟨⟩⟩)
      · rintro (rfl | rfl)
        · exact absurd fails' (State.check_ne_notValid _ _ _ _)
        · rfl
      · rintro _ _ _ ⟨⟩ permitted small
        rw [if_neg permitted]
        exact congrArg some (congrArg Prod.fst (if_pos small))
      · rw [causes, causes']
        exact limit _
  | fault wf =>
    obtain ⟨t, executed, ended, settled⟩ := exec_walkCompletion_of_fault high ⟨walks, unread⟩ fresh waited live own wf
      fun _ => 0
    rw [waiters] at settled
    have limit (v : BitVec 10) : limited t v = v := if_neg (by simp [keeps])
    refine ⟨t, executed, ended, by rintro _ _ _ ⟨⟩, fun kind failed => ?_⟩
    have same : walkFaultKind wf = kind := by
      obtain ⟨_, _, _, ⟨⟩, _⟩ | ⟨⟨⟩, rfl⟩ | ⟨_, ⟨⟩, rfl⟩ | ⟨_, ⟨⟩, rfl⟩ | ⟨_, ⟨⟩, rfl⟩ := failed <;> rfl
    obtain ⟨ports, queues, apertures, log, overflow, causes⟩ := settled.fail running (congrArg some same)
    subst same
    refine ⟨ports, queues, apertures, walkFaultFrame wf, ?_, ?_, ?_, log, overflow, ?_⟩
    · rintro _ (⟨⟨⟩⟩ | ⟨⟨⟩⟩ | ⟨⟨⟩⟩) <;> rfl
    · cases wf <;> simp [walkFaultKind, walkFaultFrame]
    · rintro _ _ _ ⟨⟩
    · rw [limit, causes, noCauses]
      rfl

end Sys2Proof.Machine

/-! PROOFS. The laws of the walker: the events that leave the walks as they are, and what is left to show of the others
(sections 4.2, 4.3, 5.2, 7.2, 7.3). -/

namespace Sys2Proof.Machine

/-! ## Events that leave the walks as they are -/

/-- A walk but for its stale mark, which an invalidation sets (R80). -/
def Walk.fresh (w : Walk) : Walk := { w with stale := false }

/-- An event starts no walk, ends none and makes no read of one, and leaves no slot Queued that was not. -/
structure WalkerStill (s t : State) : Prop where
  walks : ∀ c, (t.context c).map Walk.fresh = (s.context c).map Walk.fresh
  queued : ∀ k ∈ t.queuedSlots, ∃ j ∈ s.queuedSlots, j.aperture = k.aperture ∧ j.page = k.page
  ready : t.readySeq = s.readySeq
  records : ∀ c, t.walkRecords c = s.walkRecords c

theorem WalkerStill.refl (s : State) : WalkerStill s s := ⟨fun _ => rfl, fun k mem => ⟨k, mem, rfl, rfl⟩, rfl, fun _ => rfl⟩

theorem WalkerStill.trans {s t u : State} (h : WalkerStill s t) (h' : WalkerStill t u) : WalkerStill s u where
  walks c := (h'.walks c).trans (h.walks c)
  queued k mem := by
    obtain ⟨j, inside, aperture, page⟩ := h'.queued k mem
    obtain ⟨i, inside', aperture', page'⟩ := h.queued j inside
    exact ⟨i, inside', aperture'.trans aperture, page'.trans page⟩
  ready := h'.ready.trans h.ready
  records c := (h'.records c).trans (h.records c)

theorem State.queuedSlots_sublist {s t : State} (park : t.park.Sublist s.park) : t.queuedSlots.Sublist s.queuedSlots :=
  park.filter _

theorem WalkerStill.of_sublist {s t : State} (contexts : t.contexts = s.contexts) (park : t.park.Sublist s.park)
    (ready : t.readySeq = s.readySeq) (flight : t.inFlight = s.inFlight) : WalkerStill s t where
  walks c := by simp only [State.context, contexts]
  queued k mem := ⟨k, (State.queuedSlots_sublist park).subset mem, rfl, rfl⟩
  ready := ready
  records c := by simp only [State.walkRecords, flight]

theorem WalkerStill.of_same {s t : State} (contexts : t.contexts = s.contexts) (park : t.park = s.park)
    (ready : t.readySeq = s.readySeq) (flight : t.inFlight = s.inFlight) : WalkerStill s t :=
  .of_sublist contexts (park ▸ .refl _) ready flight

/-- A record of a walker read of context `c`. -/
def AccessRecord.isWalk (c : ContextId) (x : AccessRecord) : Bool :=
  match x with
  | .walk d _ _ => d = c
  | .discarded | .read _ | .write _ => false

theorem State.walkRecords_eq (s : State) (c : ContextId) : s.walkRecords c = s.inFlight.countP (AccessRecord.isWalk c) := by
  unfold State.walkRecords
  exact List.countP_congr fun x _ => by cases x <;> simp [AccessRecord.isWalk]

theorem State.walkRecords_cons {s : State} {x : AccessRecord} {rest : List AccessRecord} (oldest : s.inFlight = x :: rest)
    (c : ContextId) : s.walkRecords c =
      State.walkRecords { s with inFlight := rest } c + if x.isWalk c = true then 1 else 0 := by
  rw [State.walkRecords_eq, oldest, List.countP_cons, State.walkRecords_eq]

theorem State.walkRecords_append {s t : State} {x : AccessRecord} (flight : t.inFlight = s.inFlight ++ [x]) (c : ContextId) :
    t.walkRecords c = s.walkRecords c + if x.isWalk c = true then 1 else 0 := by
  rw [State.walkRecords_eq, flight, List.countP_append, ← State.walkRecords_eq, List.countP_singleton]

/-- A record that is no walker read's leaves the list, or joins it. -/
theorem WalkerStill.of_flight {s t : State} (contexts : t.contexts = s.contexts) (park : t.park = s.park)
    (ready : t.readySeq = s.readySeq) (records : ∀ c, t.walkRecords c = s.walkRecords c) : WalkerStill s t where
  walks c := by simp only [State.context, contexts]
  queued k mem := ⟨k, by simpa only [State.queuedSlots, park] using mem, rfl, rfl⟩
  ready := ready
  records := records

theorem Walk.fresh_markStale (q : InvCommand) (w : Walk) : (q.markStale w).fresh = w.fresh := by
  unfold InvCommand.markStale
  split <;> rfl

theorem executeInv_walkerStill (q : InvCommand) (s : State) : WalkerStill s (executeInv q s) := by
  refine ⟨fun c => ?_, fun k mem => ⟨k, mem, rfl, rfl⟩, rfl, fun _ => rfl⟩
  have marked : (executeInv q s).context c = (s.context c).map q.markStale := executeInv_context q s c
  rw [marked, Option.map_map]
  exact congrArg (fun f => (s.context c).map f) (funext (Walk.fresh_markStale q))

theorem markItems_walkerStill (s : State) : WalkerStill s (markItems s) := by
  refine ⟨fun _ => rfl, fun k mem => ⟨k, mem, rfl, rfl⟩, rfl, fun c => ?_⟩
  rw [State.walkRecords_eq, State.walkRecords_eq, markItems, List.countP_map]
  exact List.countP_congr fun x _ => by cases x <;> simp [AccessRecord.mark, AccessRecord.isWalk]

theorem QueueAct.walkerStill {s t : State} (act : QueueAct s t) : WalkerStill s t := by
  cases act with
  | cause | fences => exact .of_same rfl rfl rfl rfl
  | marks => exact markItems_walkerStill s
  | invalidates q => exact executeInv_walkerStill q s

theorem QueueActs.walkerStill {s t : State} (acts : QueueActs s t) : WalkerStill s t :=
  acts.keep (P := WalkerStill s) (.refl s) fun _ _ act h => h.trans act.walkerStill

theorem portResetTest_walkerStill (m : Master) (s : State) : WalkerStill s (portResetTest m s) :=
  .of_same (by simp) (by simp) (by simp) (by simp)

theorem retire_walkerStill (n : ApertureId) (s : State) : WalkerStill s (retire n s) :=
  .of_same (by simp) (by simp) (by simp) (by simp)

theorem retireRecord_walkerStill (r : ItemRecord) (s : State) : WalkerStill s (retireRecord r s) :=
  ((retire_walkerStill _ _).trans (lowerFence_acts _ _).walkerStill).trans (portResetTest_walkerStill _ _)

/-- An event that takes slots away and leaves the walks. -/
theorem foldl_walkerStill {α : Type} {f : State → α → State} (step : ∀ s x, WalkerStill s (f s x)) (l : List α) (s : State) :
    WalkerStill s (l.foldl f s) := by
  induction l generalizing s with
  | nil => exact .refl s
  | cons x l ih => exact (step s x).trans (ih (f s x))

theorem expireSlot_walkerStill (s : State) (k : ParkSlot) : WalkerStill s (expireSlot s k) :=
  .of_sublist (by simp [expireSlot_eq]) (by simp [expireSlot_eq]) (by simp [expireSlot_eq]) (by simp [expireSlot_eq])

theorem abortSlot_walkerStill (s : State) (k : ParkSlot) : WalkerStill s (abortSlot s k) :=
  .of_sublist (by simp) (by simp [abortSlot]) (by simp) (by simp)

theorem takeTick_walkerStill (s : State) : WalkerStill s (takeTick s) := by
  refine WalkerStill.trans (t := { s with park := s.park.map ParkSlot.tick }) ?_ (foldl_walkerStill expireSlot_walkerStill _ _)
  refine ⟨fun _ => rfl, fun k mem => ?_, rfl, fun _ => rfl⟩
  obtain ⟨inside, queued⟩ := List.mem_filter.1 mem
  obtain ⟨j, before, rfl⟩ := List.mem_map.1 inside
  have kept : j.tick.placement = j.placement ∧ j.tick.aperture = j.aperture ∧ j.tick.page = j.page := by
    unfold ParkSlot.tick
    split <;> exact ⟨rfl, rfl, rfl⟩
  obtain ⟨placement, aperture, page⟩ := kept
  rw [placement] at queued
  exact ⟨j, List.mem_filter.2 ⟨before, queued⟩, aperture.symm, page.symm⟩

theorem HostAct.walkerStill {b b' : Bool} {s t : State} (act : HostAct b b' s t) : WalkerStill s t := by
  cases act with
  | opens n =>
    obtain ⟨-, -, h⟩ | ⟨-, -, h⟩ | ⟨-, h⟩ := openCommand_cases n s <;> rw [h] <;> exact .of_same rfl rfl rfl rfl
  | closes n =>
    exact closeCommand_keeps (P := WalkerStill s) (.of_same rfl rfl rfl rfl) (fun _ _ => .of_same rfl rfl rfl rfl)
      (fun _ => .of_same rfl rfl rfl rfl) (fun u k h _ _ => h.trans (abortSlot_walkerStill u k))
      fun u h => h.trans (.of_same (by simp) (by simp) (by simp) (by simp))
  | halts n =>
    obtain ⟨-, h⟩ | ⟨-, h⟩ := haltCommand_cases n s <;> rw [h] <;> exact .of_same rfl rfl rfl rfl
  | resumes n =>
    obtain ⟨-, h⟩ | ⟨-, h⟩ := resumeCommand_cases n s <;> rw [h] <;> exact .of_same rfl rfl rfl rfl
  | describes n w v =>
    unfold writeDescriptor
    dsimp only
    split <;> exact .of_same rfl rfl rfl rfl
  | sweeps m =>
    exact WalkerStill.trans (t := sweep m s) (.of_sublist rfl List.filter_sublist rfl rfl)
      (foldl_walkerStill (f := fun t n => retire n t) (fun u n => retire_walkerStill n u) _ _)
  | _ => exact .of_same rfl rfl rfl rfl

theorem resetPort_walkerStill (m : Master) (s : State) : WalkerStill s (resetPort m s) := by
  unfold resetPort
  split
  · exact .refl s
  · rename_i live
    have swept : WalkerStill s ((s.sweptApertures m).foldl (fun t n => retire n t) (sweep m (indicate m s))) :=
      WalkerStill.trans (t := indicate m s) (.of_same rfl rfl rfl rfl) (HostAct.sweeps (clearing := true) (indicate m s) m live rfl).walkerStill
    exact (swept.trans (lowerFence_acts _ _).walkerStill).trans (portResetTest_walkerStill _ _)

theorem pushStaged_walkerStill (s : State) : WalkerStill s (pushStaged s) := by
  obtain ⟨-, h⟩ | ⟨q, -, -, h⟩ | ⟨q, -, -, h⟩ | h := pushStaged_cases s <;> rw [h]
  · exact .of_same (by simp) (by simp) (by simp) (by simp)
  · exact (handleHead_acts [q] s).walkerStill
  · exact .of_same rfl rfl rfl rfl
  · exact .of_same rfl rfl rfl rfl

/-! ## Arrivals -/

theorem leaveHole_walkerStill (m : Master) (r : Request) (n : ApertureId) (arrival : Nat) (s : State) :
    WalkerStill s (leaveHole m r n arrival s) := by
  unfold leaveHole
  split <;> exact .of_same rfl rfl rfl rfl

theorem takeTranslated_walkerStill (m : Master) (r : Request) (n : ApertureId) (arrival : Nat) (rights : MapAccess) (phys : Nat)
    (s : State) : WalkerStill s (takeTranslated m r n arrival rights phys s) := by
  unfold takeTranslated
  dsimp only
  split
  · exact .of_same (by simp) (by simp) (by simp) (by simp)
  · split
    · exact .of_same rfl rfl rfl rfl
    · exact .of_same (by simp) (by simp) (by simp) (by simp)

theorem reportRefusal_walkerStill (reason : RefuseReason) (m : Master) (r : Request) (s : State) :
    WalkerStill s (reportRefusal reason m r s) := by
  have reported (x : FaultRecord) : WalkerStill s (report x s) := .of_same (by simp) (by simp) (by simp) (by simp)
  unfold reportRefusal
  dsimp only
  split
  all_goals first | exact reported _ | exact .refl s

/-- A request that is Taken leaves the walks, or it is parked. -/
theorem takeRequest_walker (m : Master) (r : Request) (n : ApertureId) (s : State) : WalkerStill s (takeRequest m r n s) ∨
    ∃ u num page arrival, WalkerStill s u ∧ takeRequest m r n s = parkRequest num m r n page arrival u := by
  have admitted : WalkerStill s (admitRequest m r n s) := .of_same (by simp) (by simp) (by simp) (by simp)
  unfold takeRequest
  dsimp only
  cases (s.aperture n).mode with
  | linear => exact .inl (admitted.trans (takeTranslated_walkerStill ..))
  | walked =>
    dsimp only
    cases s.pageLookup n ((s.aperture n).pageIndex r.address) with
    | some e =>
      have touched : WalkerStill (admitRequest m r n s) (touchPage e (admitRequest m r n s)) := .of_same rfl rfl rfl rfl
      exact .inl ((admitted.trans touched).trans (takeTranslated_walkerStill ..))
    | none =>
      dsimp only
      rw [takeMissed_eq]
      cases (admitRequest m r n s).freeSlotNumber with
      | none => exact .inl admitted
      | some num => exact .inr ⟨_, _, _, _, admitted.trans (leaveHole_walkerStill ..), rfl⟩

/-- An arrival leaves the walks, or it is parked. -/
theorem judgeArrival_walker (m : Master) (r : Request) (s : State) : WalkerStill s (judgeArrival m r s) ∨
    ∃ u num n page arrival, WalkerStill s u ∧ judgeArrival m r s = parkRequest num m r n page arrival u := by
  unfold judgeArrival
  obtain ⟨answer, aperture⟩ := s.judge m r
  have answered : WalkerStill s (emit (.answer m r.tag answer) s) := .of_same rfl rfl rfl rfl
  dsimp only
  split
  · next n =>
    obtain still | ⟨u, num, page, arrival, still, same⟩ := takeRequest_walker m r n (emit (.answer m r.tag .taken) s)
    · exact .inl (answered.trans still)
    · exact .inr ⟨u, num, n, page, arrival, answered.trans still, same⟩
  · exact .inl (answered.trans (reportRefusal_walkerStill ..))
  · exact .inl answered

/-! ## What is left to show of a law of the walker -/

/-- A property that the events which leave the walks keep, and that the walker's own events keep as well. -/
structure KeptByWalker (P : State → Prop) : Prop where
  still : ∀ s t, WalkerStill s t → P s → P t
  arrival : ∀ s m r, P s → P (judgeArrival m r s)
  grant : ∀ s c w t, s.context c = some w → w.read = .pending t → P s → P (grantWalk c s)
  read : ∀ s c n p rest res, s.inFlight = .walk c n p :: rest → P s → P (walkReadDone c res { s with inFlight := rest })
  walk : ∀ s c w r, s.context c = some w → w.read = .none → P s → P (completeWalk c r s)
  takeover : ∀ s c, s.context c = none → P s → P (takeover s.park.length c s)
  reset : ∀ s t, ResetAct s t → P t

theorem KeptByWalker.takeGrant {P : State → Prop} (kept : KeptByWalker P) (s : State) (holds : P s) : P (takeGrant s) := by
  have issued {x : AccessRecord} {t : State} (other : ∀ c, x.isWalk c = false) (contexts : t.contexts = s.contexts)
      (park : t.park = s.park) (ready : t.readySeq = s.readySeq) (flight : t.inFlight = s.inFlight ++ [x]) : P t :=
    kept.still s t (.of_flight contexts park ready fun c => by rw [State.walkRecords_append flight, other]; rfl) holds
  unfold Machine.takeGrant
  split
  · cases chosen : s.chosen with
    | none => exact holds
    | some x =>
      obtain ⟨c, w, t, rfl, walks, pending⟩ | ⟨m, e, rfl, -⟩ | ⟨m, e, rfl, -⟩ := State.chosen_eq_some chosen
      · exact kept.grant s c w t walks pending holds
      · exact issued (fun _ => rfl) rfl rfl rfl rfl
      · exact issued (fun _ => rfl) rfl rfl rfl rfl
  · exact holds

theorem KeptByWalker.recordDone {P : State → Prop} (kept : KeptByWalker P) (s : State) (x : AccessRecord)
    (rest : List AccessRecord) (res : BusResult) (oldest : s.inFlight = x :: rest) (holds : P s) :
    P (recordDone x res { s with inFlight := rest }) := by
  have left (other : ∀ c, x.isWalk c = false) : P { s with inFlight := rest } :=
    kept.still s _ (.of_flight rfl rfl rfl fun c => by rw [State.walkRecords_cons oldest, other]; rfl) holds
  cases x with
  | discarded => exact left fun _ => rfl
  | walk c n p => exact kept.read s c n p rest res oldest holds
  | read r =>
    exact kept.still _ _ (WalkerStill.trans (t := readDone r res { s with inFlight := rest })
      (.of_same (by simp) (by simp) (by simp) (by simp)) (retireRecord_walkerStill r _)) (left fun _ => rfl)
  | write r =>
    exact kept.still _ _ (WalkerStill.trans (t := writeDone r res { s with inFlight := rest })
      (.of_same (by simp) (by simp) (by simp) (by simp)) (retireRecord_walkerStill r _)) (left fun _ => rfl)

theorem KeptByWalker.events {P : State → Prop} (kept : KeptByWalker P) : KeptByEvents P where
  arrival := kept.arrival
  accept s m c rest offered := kept.still _ _ (.of_same rfl rfl rfl rfl)
  grant := kept.takeGrant
  completion := kept.recordDone
  walk := kept.walk
  takeover := kept.takeover
  tick s := kept.still _ _ (takeTick_walkerStill s)
  expiry s k _ := kept.still _ _ (expireSlot_walkerStill s k)
  drain s n := kept.still _ _ (.of_same (by simp) (by simp) (by simp) (by simp))
  ends s m := kept.still _ _ (portResetTest_walkerStill m s)
  head s k := kept.still _ _ (handleHeadOfKind_acts k s).walkerStill
  fence s := kept.still _ _ (fenceTest_acts s).walkerStill
  push s := kept.still _ _ (pushStaged_walkerStill s)
  portReset s m := kept.still _ _ (resetPort_walkerStill m s)
  host s t act := kept.still _ _ act.walkerStill
  reset s t act _ := kept.reset s t act

theorem ResetAct.contexts_eq {s t : State} (act : ResetAct s t) (c : ContextId) : t.context c = none := by
  cases act with
  | softReset => simp [Machine.softReset, State.context]
  | holds => simp [hold, State.reset, State.context]
  | releases pass => simp [release, hold, State.reset, State.context]

theorem ResetAct.walkRecords_eq {s t : State} (act : ResetAct s t) (c : ContextId) : t.walkRecords c = 0 := by
  rw [State.walkRecords_eq, List.countP_eq_zero]
  cases act with
  | softReset =>
    intro x mem
    have marked : x ∈ s.inFlight.map fun _ => AccessRecord.discarded := by simpa [Machine.softReset] using mem
    obtain ⟨_, _, rfl⟩ := List.mem_map.1 marked
    simp [AccessRecord.isWalk]
  | holds => simp [hold, State.reset]
  | releases pass => simp [release, hold, State.reset]

end Sys2Proof.Machine

/-! PROOFS. The reads of the walks: one for each busy context, its record in flight once it is issued, its ready time apart from
the other's (R72, R126, R131). -/

namespace Sys2Proof.Machine

/-! ## The ready times (R126) -/

/-- The walk that a context holds after an event that leaves the walks. -/
theorem WalkerStill.walk {s t : State} (still : WalkerStill s t) {c : ContextId} {w : Walk} (walks : t.context c = some w) :
    ∃ v, s.context c = some v ∧ v.sameKey w ∧ v.read = w.read := by
  have same := still.walks c
  rw [walks] at same
  cases before : s.context c with
  | none => simp [before] at same
  | some v =>
    rw [before] at same
    have fresh : w.fresh = v.fresh := by simpa using same
    exact ⟨v, rfl, ⟨(congrArg Walk.aperture fresh).symm, (congrArg Walk.page fresh).symm⟩, (congrArg Walk.read fresh).symm⟩

theorem ReadyLaw.of_times {s t : State} (law : ReadyLaw s) (times : ∀ c u, t.readyTime c = some u → s.readyTime c = some u)
    (later : s.readySeq ≤ t.readySeq) : ReadyLaw t where
  below c u ready := (law.below c u (times c u ready)).trans_le later
  apart u v ready ready' := law.apart u v (times 0 u ready) (times 1 v ready')

/-- A context that is set to a walk without a pending read has no ready time. -/
theorem readyTime_setContext {s : State} {c : ContextId} {w : Option Walk} (unread : ∀ v, w = some v → ∀ u, v.read ≠ .pending u)
    (d : ContextId) (u : Nat) (ready : (s.setContext c w).readyTime d = some u) : s.readyTime d = some u := by
  obtain ⟨v, walks, pending⟩ := State.readyTime_eq_some.1 ready
  rw [State.context_setContext] at walks
  split at walks
  · exact absurd pending (unread v walks u)
  · exact State.readyTime_eq_some.2 ⟨v, walks, pending⟩

theorem ReadyLaw.makePending {s : State} (law : ReadyLaw s) (c : ContextId) (w : Walk) : ReadyLaw (makePending c w s) := by
  have times (d : ContextId) (u : Nat) (ready : (Machine.makePending c w s).readyTime d = some u) :
      (d = c ∧ u = s.readySeq) ∨ (d ≠ c ∧ s.readyTime d = some u) := by
    obtain ⟨v, walks, pending⟩ := State.readyTime_eq_some.1 ready
    rw [makePending_context] at walks
    by_cases own : d = c
    · rw [if_pos own] at walks
      cases walks
      cases pending
      exact .inl ⟨own, rfl⟩
    · rw [if_neg own] at walks
      exact .inr ⟨own, State.readyTime_eq_some.2 ⟨v, walks, pending⟩⟩
  refine ⟨fun d u ready => ?_, fun u v ready ready' same => ?_⟩
  · obtain ⟨-, rfl⟩ | ⟨-, before⟩ := times d u ready
    · exact Nat.lt_succ_self _
    · exact Nat.lt_succ_of_lt (law.below d u before)
  · subst same
    obtain ⟨own, rfl⟩ | ⟨other, before⟩ := times 0 u ready
    · obtain ⟨own', -⟩ | ⟨-, before'⟩ := times 1 _ ready'
      · exact absurd (own.trans own'.symm) (by decide)
      · exact lt_irrefl _ (law.below 1 _ before')
    · obtain ⟨-, rfl⟩ | ⟨-, before'⟩ := times 1 u ready'
      · exact lt_irrefl _ (law.below 0 _ before)
      · exact law.apart u u before before' rfl

theorem Move.keeps_readyLaw {o s t : State} (move : Move o s t) (law : ReadyLaw s) : ReadyLaw t := by
  have same {u : State} (contexts : u.contexts = s.contexts) (ready : u.readySeq = s.readySeq) : ReadyLaw u :=
    law.of_times (fun c x h => by simpa only [State.readyTime, State.context, contexts] using h) ready.ge
  cases move with
  | begins c n page => exact law.of_times (readyTime_setContext (by rintro _ ⟨⟩ _ ⟨⟩)) le_rfl
  | enters c v w walks key unread unread' =>
    exact law.of_times (readyTime_setContext (by rintro _ ⟨⟩ _ pending; simp [unread'] at pending)) le_rfl
  | pend c w => exact law.makePending c w
  | idle c w =>
    have left : ReadyLaw (s.setContext c none) := law.of_times (readyTime_setContext (by rintro _ ⟨⟩)) le_rfl
    exact left.of_times (fun d x h => by simpa [State.readyTime] using h) (by simp)
  | draw | tick => exact same rfl rfl
  | _ => exact same (by simp [leaveSlot]) (by simp [leaveSlot])

theorem Reach.readyLaw {s t : State} (reach : Reach s t) (law : ReadyLaw s) : ReadyLaw t :=
  reach.keep law fun _ _ move => move.keeps_readyLaw

theorem readyLaw_keptByWalker : KeptByWalker ReadyLaw where
  still s t still law := law.of_times (fun c u ready => by
    obtain ⟨w, walks, pending⟩ := State.readyTime_eq_some.1 ready
    obtain ⟨v, before, -, read⟩ := still.walk walks
    exact State.readyTime_eq_some.2 ⟨v, before, read.trans pending⟩) still.ready.ge
  arrival s m r law := by
    obtain ⟨a, reach⟩ := judgeArrival_reach m r s
    exact reach.readyLaw (law.of_times (fun _ _ h => h) le_rfl)
  grant s c w t walks pending law := by
    have issued : ReadyLaw (s.setContext c (some { w with read := .issued })) :=
      law.of_times (readyTime_setContext (by rintro _ ⟨⟩ _ ⟨⟩)) le_rfl
    unfold grantWalk
    rw [walks]
    exact issued.of_times (fun _ _ h => h) le_rfl
  read s c n p rest res oldest law := by
    obtain ⟨-, same⟩ | ⟨w, -, reach⟩ := walkRecordDone_reach (s := s) (c := c) (n := n) (p := p) rest res
    · have same' : walkReadDone c res { s with inFlight := rest } = { s with inFlight := rest } := same
      rw [same']
      exact law.of_times (fun _ _ h => h) le_rfl
    · have finished : ReadyLaw (s.setContext c (some { w with read := .none })) :=
        law.of_times (readyTime_setContext (by rintro _ ⟨⟩ _ ⟨⟩)) le_rfl
      exact reach.readyLaw (finished.of_times (fun _ _ h => h) le_rfl)
  walk s c w r walks unread law := (Reach.completeWalk .refl
    (fun v busy => by cases walks.symm.trans busy; exact unread) r).readyLaw law
  takeover s c idle law := (Reach.takeover _ .refl idle).readyLaw law
  reset s t act := by
    have none (c : ContextId) : t.readyTime c = none := by rw [State.readyTime, act.contexts_eq]
    exact ⟨fun c u h => by simp [none] at h, fun u v h => by simp [none] at h⟩

/-! ## The records of walker reads (R72, R131) -/

/-- The read of the walk in context `c` is issued. -/
def State.readIssued (s : State) (c : ContextId) : Bool := (s.context c).any (·.read = .issued)

/-- An issued read is one record in flight, and there are no other records of walker reads. -/
def Recorded (s : State) : Prop := ∀ c, s.walkRecords c = if s.readIssued c = true then 1 else 0

theorem State.readIssued_of_some {s : State} {c : ContextId} {w : Walk} (walks : s.context c = some w) :
    s.readIssued c = decide (w.read = .issued) := by
  simp [State.readIssued, walks]

theorem State.readIssued_setContext (s : State) (c d : ContextId) (w : Option Walk) :
    (s.setContext c w).readIssued d = if d = c then w.any (·.read = .issued) else s.readIssued d := by
  rw [State.readIssued, State.context_setContext]
  split <;> rfl

theorem Recorded.of_same {s t : State} (recorded : Recorded s) (flight : t.inFlight = s.inFlight)
    (issued : ∀ c, t.readIssued c = s.readIssued c) : Recorded t := by
  intro c
  rw [issued, ← recorded c, State.walkRecords_eq, State.walkRecords_eq, flight]

theorem Move.readIssued {o s t : State} (move : Move o s t) (c : ContextId) : t.readIssued c = s.readIssued c := by
  have replaced {d : ContextId} {w : Option Walk} (before : s.readIssued d = false)
      (after : w.any (·.read = .issued) = false) : (s.setContext d w).readIssued c = s.readIssued c := by
    rw [State.readIssued_setContext, after]
    split
    · next own => rw [own, before]
    · rfl
  cases move with
  | begins d n page idle live => exact replaced (by simp [State.readIssued, idle]) rfl
  | enters d v w walks key unread unread' =>
    exact replaced (by simp [State.readIssued_of_some walks, unread]) (by simp [unread'])
  | pend d w walks unread => exact replaced (by simp [State.readIssued_of_some walks, unread]) rfl
  | idle d w walks unread =>
    have left : (s.setContext d none).readIssued c = s.readIssued c :=
      replaced (by simp [State.readIssued_of_some walks, unread]) rfl
    rw [← left]
    simp [State.readIssued]
  | draw | tick => rfl
  | _ => simp [State.readIssued, leaveSlot]

theorem Move.inFlight {o s t : State} (move : Move o s t) : t.inFlight = s.inFlight := by
  cases move with
  | draw | tick => rfl
  | _ => simp [leaveSlot]

theorem Reach.recorded {s t : State} (reach : Reach s t) (recorded : Recorded s) : Recorded t :=
  reach.keep recorded fun _ _ move holds => holds.of_same move.inFlight move.readIssued

theorem WalkerStill.recorded {s t : State} (still : WalkerStill s t) (recorded : Recorded s) : Recorded t := by
  have issued (u : State) (c : ContextId) : u.readIssued c = ((u.context c).map Walk.fresh).any (·.read = .issued) := by
    rw [Option.any_map]
    rfl
  intro c
  rw [still.records, issued, still.walks, ← issued, recorded c]

theorem AccessRecord.isWalk_walk (c d : ContextId) (n : ApertureId) (p : PhysAddr) :
    AccessRecord.isWalk d (.walk c n p) = decide (c = d) := rfl

theorem grantWalk_of_busy {s : State} {c : ContextId} {w : Walk} (walks : s.context c = some w) :
    ∃ p, grantWalk c s = issue (.walk c w.aperture p) (.read p 1) (s.setContext c (some { w with read := .issued })) :=
  ⟨_, by rw [grantWalk, walks]⟩

theorem Recorded.grantWalk {s : State} (recorded : Recorded s) {c : ContextId} {w : Walk} {t : Nat} (walks : s.context c = some w)
    (pending : w.read = .pending t) : Recorded (grantWalk c s) := by
  obtain ⟨p, granted⟩ := grantWalk_of_busy walks
  intro d
  have records : (Machine.grantWalk c s).walkRecords d = _ := State.walkRecords_append (s := s) (by rw [granted]; rfl) d
  have issued : (Machine.grantWalk c s).readIssued d = _ :=
    (by rw [granted]; rfl : _ = _).trans (State.readIssued_setContext s c d (some { w with read := .issued }))
  rw [records, issued, AccessRecord.isWalk_walk]
  by_cases own : d = c
  · subst own
    have unissued : s.walkRecords d = 0 := by rw [recorded d, State.readIssued_of_some walks, pending]; rfl
    simp [unissued]
  · simp [own, Ne.symm own, recorded d]

/-- The oldest record is of a walker read: its context's read was issued, and with the record it is none. -/
theorem Recorded.walkRead {s : State} (recorded : Recorded s) {c : ContextId} {n : ApertureId} {p : PhysAddr}
    {rest : List AccessRecord} (oldest : s.inFlight = .walk c n p :: rest) :
    ∃ w, s.context c = some w ∧ Recorded (finishWalkRead c w rest s) := by
  have counts (d : ContextId) := State.walkRecords_cons oldest d
  simp only [AccessRecord.isWalk_walk, decide_eq_true_eq, recorded _] at counts
  have own := counts c
  rw [if_pos rfl] at own
  cases walks : s.context c with
  | none =>
    rw [show s.readIssued c = false by simp [State.readIssued, walks]] at own
    exact absurd own (by simp)
  | some w =>
    refine ⟨w, rfl, fun d => ?_⟩
    have records : (finishWalkRead c w rest s).walkRecords d = State.walkRecords { s with inFlight := rest } d := rfl
    have reads : (finishWalkRead c w rest s).readIssued d = _ :=
      State.readIssued_setContext s c d (some { w with read := .none })
    rw [records, reads]
    by_cases same : d = c
    · subst same
      have none : State.walkRecords { s with inFlight := rest } d = 0 := by
        split at own <;> omega
      simp [none]
    · rw [if_neg same, counts d, if_neg (Ne.symm same), Nat.add_zero]

end Sys2Proof.Machine

/-! PROOFS. A busy context has its one read: the results that end a walk, and the events that leave each walk reading
(R63, R72, R74, R76). -/

namespace Sys2Proof.Machine

/-! ## Results that end a walk -/

/-- A busy context other than `c` has its read pending or issued. -/
def ReadingBut (c : ContextId) (s : State) : Prop := ∀ d, d ≠ c → ∀ w, s.context d = some w → w.read ≠ .none

/-- A busy context has its read pending or issued. -/
def Reading (s : State) : Prop := ∀ c w, s.context c = some w → w.read ≠ .none

theorem Reading.but {s : State} (reading : Reading s) (c : ContextId) : ReadingBut c s := fun d _ => reading d

theorem ReadingBut.reading_of_idle {s : State} {c : ContextId} (reading : ReadingBut c s) (idle : s.context c = none) :
    Reading s := by
  intro d w walks
  by_cases own : d = c
  · subst own
    rw [idle] at walks
    cases walks
  · exact reading d own w walks

theorem ReadingBut.reading_of_busy {s : State} {c : ContextId} {w : Walk} (reading : ReadingBut c s)
    (walks : s.context c = some w) (reads : w.read ≠ .none) : Reading s := by
  intro d v busy
  by_cases own : d = c
  · subst own
    rw [walks] at busy
    cases busy
    exact reads
  · exact reading d own v busy

theorem ReadingBut.congr {c : ContextId} {s t : State} (reading : ReadingBut c s)
    (others : ∀ d, d ≠ c → t.context d = s.context d) : ReadingBut c t := by
  intro d other w walks
  rw [others d other] at walks
  exact reading d other w walks

/-- Nobody waits for the walk `w` in context `c`, its aperture is Draining, or it is stale: its result is discarded (R63). -/
def State.unwanted (s : State) (c : ContextId) (w : Walk) : Prop :=
  (s.waiters c).isEmpty = true ∨ (s.aperture w.aperture).state = .draining ∨ w.stale = true

/-- The result `r` does not leave the walk `w` standing in context `c` when it is judged. -/
def State.ends (s : State) (c : ContextId) (w : Walk) (r : WalkResult) : Prop := r = .discarded → s.unwanted c w

theorem State.ends_fault (s : State) (c : ContextId) (w : Walk) (f : WalkFault) : s.ends c w (.fault f) := nofun

theorem mapResult_ends (s : State) (c : ContextId) (v w : Walk) (f : Frame) (a : Aperture) (r : BusResult) :
    s.ends c v (mapResult w f a r) := by
  unfold mapResult
  cases r with
  | error => exact nofun
  | okay beats =>
    dsimp only
    split
    · exact nofun
    · split <;> exact nofun

/-- Entries end a walk with a result that does not leave it standing. -/
theorem enterWith_ends {c : ContextId} {w : Walk} {s : State} {r : Option WalkResult}
    (discards : r = some .discarded → s.unwanted c w) {x : WalkResult} (ended : (enterWith c w s r).2 = some x) {v : Walk}
    (walks : (enterWith c w s r).1.context c = some v) : (enterWith c w s r).1.ends c v x := by
  obtain rfl : r = some x := ended
  rw [enterWith_context, if_pos rfl] at walks
  cases walks
  rintro rfl
  exact discards rfl

theorem State.blockEntry_discarded {s : State} {c : ContextId} {w : Walk} {f : Frame}
    (discarded : s.blockEntry c w f = some .discarded) : s.unwanted c w := by
  unfold State.blockEntry at discarded
  split at discarded
  · next unwanted => simpa [State.unwanted, or_assoc] using unwanted
  · split at discarded <;> cases discarded

theorem enterBlock_ends {c : ContextId} {w : Walk} {f : Frame} {s : State} {x : WalkResult}
    (ended : (enterBlock c w f s).2 = some x) {v : Walk} (walks : (enterBlock c w f s).1.context c = some v) :
    (enterBlock c w f s).1.ends c v x := by
  rw [enterBlock_eq] at ended walks ⊢
  exact enterWith_ends (fun discarded => State.blockEntry_discarded discarded) ended walks

theorem enterDirectory_ends {c : ContextId} {w : Walk} {s : State} {x : WalkResult}
    (ended : (enterDirectory c w s).2 = some x) {v : Walk} (walks : (enterDirectory c w s).1.context c = some v) :
    (enterDirectory c w s).1.ends c v x := by
  cases look : s.dirLookup w.aperture (w.page / 1024) with
  | none =>
    rw [enterDirectory_of_miss look] at ended walks ⊢
    refine enterWith_ends (fun discarded => ?_) ended walks
    unfold State.directoryEntry at discarded
    split at discarded <;> cases discarded
  | some e =>
    rw [enterDirectory_of_hit look] at ended walks ⊢
    have discards (discarded : s.blockEntry c { w with dirUsed := true } e.blockFrame = some .discarded) :
        (touchDir e s).unwanted c ({ w with dirUsed := true }.atBlock e.blockFrame) :=
      State.blockEntry_discarded (s := s) discarded
    exact enterWith_ends discards ended walks

/-! ## Judging -/

theorem settleWalk_ended {r : WalkResult} (given : r ≠ .discarded) (c : ContextId) (w : Walk) (s : State) :
    (settleWalk c w r s).2 = true := by
  cases r with
  | discarded => exact absurd rfl given
  | fault | success => rfl

/-- A walk that stands after its result was judged has entered its directory phase again, and its read is pending. -/
theorem judgeWalk_reads {s : State} {c : ContextId} {w : Walk} {r : WalkResult} (ends : s.ends c w r)
    (stands : (judgeWalk c w r s).2 = false) : ∃ v, (judgeWalk c w r s).1.context c = some v ∧ v.read ≠ .none := by
  unfold judgeWalk at stands ⊢
  split at stands
  · cases stands
  · next wanted =>
    rw [if_neg wanted]
    have waited : ¬ ((s.waiters c).isEmpty = true ∨ (s.aperture w.aperture).state = .draining) := by simpa using wanted
    split at stands
    · next stale =>
      rw [if_pos stale]
      obtain ⟨-, v, walks, key, pending, -⟩ := entered_enterDirectory c { w with stale := false } s
      have again {x : WalkResult} := enterDirectory_ends (x := x) (c := c) (w := { w with stale := false }) (s := s)
      obtain ⟨u, walks', -, fresh⟩ := enterDirectory_fresh c { w with stale := false } s
      have park : (enterDirectory c { w with stale := false } s).1.waiters c = s.waiters c := by simp [State.waiters]
      have apertures (n : ApertureId) : (enterDirectory c { w with stale := false } s).1.aperture n = s.aperture n := by simp
      cases entry : enterDirectory c { w with stale := false } s with
      | mk t result =>
        rw [entry] at walks pending again walks' park apertures stands
        cases result with
        | none => exact ⟨v, walks, by rw [pending rfl]; simp⟩
        | some x =>
          have given : x ≠ .discarded := by
            intro discarded
            have unwanted := again rfl walks discarded
            rw [State.unwanted, park, apertures, key.1] at unwanted
            obtain empty | draining | stale := unwanted
            · exact waited (.inl empty)
            · exact waited (.inr draining)
            · cases walks.symm.trans walks'
              rw [fresh] at stale
              cases stale
          rw [settleWalk_ended given] at stands
          cases stands
    · next fresh =>
      have given : r ≠ .discarded := by
        intro discarded
        obtain empty | draining | stale := ends discarded
        · exact waited (.inl empty)
        · exact waited (.inr draining)
        · exact fresh stale
      rw [settleWalk_ended given] at stands
      cases stands

/-- A judged walk stands reading, or it leaves its context Idle. -/
theorem ReadingBut.judgeWalk {s : State} {c : ContextId} {w : Walk} {r : WalkResult} (reading : ReadingBut c s)
    (waits : s.awaits c w) (ends : s.ends c w r) :
    ((judgeWalk c w r s).2 = false → Reading (judgeWalk c w r s).1) ∧
      ((judgeWalk c w r s).2 = true → ReadingBut c (idleReport w.aperture (judgeWalk c w r s).1) ∧
        (idleReport w.aperture (judgeWalk c w r s).1).context c = none) := by
  have judged := Reach.judgeWalk (o := s) .refl waits r
  have others := reading.congr judged.others
  refine ⟨fun stands => ?_, fun ended => ⟨others.congr fun d _ => by simp [idleReport], (judged.idleReport ended).2⟩⟩
  obtain ⟨v, walks, reads⟩ := judgeWalk_reads ends stands
  exact others.reading_of_busy walks reads

/-- A takeover leaves each walk reading. -/
theorem ReadingBut.takeover (fuel : Nat) {c : ContextId} {s : State} (reading : ReadingBut c s) (idle : s.context c = none) :
    Reading (takeover fuel c s) := by
  induction fuel generalizing s with
  | zero => exact reading.reading_of_idle idle
  | succ fuel ih =>
    unfold Machine.takeover
    split
    · exact reading.reading_of_idle idle
    · rename_i k more _
      let start : Walk := ⟨.directoryRead, k.aperture, k.page, .none, false, false⟩
      have entered : Entered c start _ (startWalk c k.aperture k.page (joinQueued c k.aperture k.page s)) :=
        entered_enterDirectory c start _
      have ends {x : WalkResult} {v : Walk} (ended : (startWalk c k.aperture k.page (joinQueued c k.aperture k.page s)).2 = some x)
          (walks : (startWalk c k.aperture k.page (joinQueued c k.aperture k.page s)).1.context c = some v) :
          (startWalk c k.aperture k.page (joinQueued c k.aperture k.page s)).1.ends c v x :=
        enterDirectory_ends ended walks
      obtain ⟨others, v, walks, -, pending, unread⟩ := entered
      generalize startWalk c k.aperture k.page (joinQueued c k.aperture k.page s) = entry at others walks pending unread ends ⊢
      obtain ⟨t, result⟩ := entry
      have but : ReadingBut c t := reading.congr others
      cases result with
      | none => exact but.reading_of_busy walks (by rw [pending rfl]; simp)
      | some x =>
        have walks' : t.context c = some v := walks
        obtain ⟨stands, ended⟩ := but.judgeWalk ⟨walks', unread x rfl⟩ (ends rfl walks)
        dsimp only
        rw [walks']
        dsimp only
        generalize Machine.judgeWalk c v x t = judged at stands ended
        obtain ⟨u, gone⟩ := judged
        cases gone with
        | false => exact stands rfl
        | true =>
          obtain ⟨left, none⟩ := ended rfl
          exact ih left none

theorem ReadingBut.completeWalk {s : State} {c : ContextId} {w : Walk} {r : WalkResult} (reading : ReadingBut c s)
    (waits : s.awaits c w) (ends : s.ends c w r) : Reading (completeWalk c r s) := by
  obtain ⟨stands, ended⟩ := reading.judgeWalk waits ends
  cases judged : Machine.judgeWalk c w r s with
  | mk t gone =>
    rw [judged] at stands ended
    cases gone with
    | false =>
      rw [completeWalk_of_still waits.1 judged]
      exact stands rfl
    | true =>
      rw [completeWalk_of_ended waits.1 judged]
      obtain ⟨left, none⟩ := ended rfl
      exact left.takeover _ none

/-- An entry leaves each walk reading, with the completion that follows it where it ends the walk. -/
theorem ReadingBut.finishEntry {s : State} {c : ContextId} {w : Walk} {p : State × Option WalkResult} (reading : ReadingBut c s)
    (entered : Entered c w s p) (ends : ∀ x v, p.2 = some x → p.1.context c = some v → p.1.ends c v x) :
    Reading (finishEntry c p) := by
  obtain ⟨others, v, walks, -, pending, unread⟩ := entered
  have but : ReadingBut c p.1 := reading.congr others
  unfold Machine.finishEntry
  split
  · next none => exact but.reading_of_busy walks (by rw [pending none]; simp)
  · next x ended => exact but.completeWalk ⟨walks, unread x ended⟩ (ends x v ended walks)

/-! ## The events of the walker -/

theorem Reading.parkRequest {s : State} (reading : Reading s) (num : SlotId) (m : Master) (r : Request) (n : ApertureId)
    (page arrival : Nat) : Reading (parkRequest num m r n page arrival s) := by
  rw [parkRequest_eq]
  cases s.contextFor n page with
  | some c => exact reading
  | none =>
    dsimp only
    cases s.idleContext with
    | none => exact reading
    | some c =>
      exact ReadingBut.finishEntry (s := addSlot _ s) (w := ⟨.directoryRead, n, page, .none, false, false⟩) (reading.but c)
        (entered_enterDirectory c _ _) fun _ _ ended walks => enterDirectory_ends ended walks

theorem ReadingBut.directoryDone {s : State} {c : ContextId} {w : Walk} (reading : ReadingBut c s) (waits : s.awaits c w)
    (r : BusResult) : Reading (directoryDone c w r s) := by
  unfold Machine.directoryDone
  cases r with
  | error => exact reading.completeWalk waits (s.ends_fault c w _)
  | okay beats =>
    dsimp only
    split
    · refine ReadingBut.finishEntry ?_ (entered_enterBlock c w _ _) fun _ _ ended walks => enterBlock_ends ended walks
      split
      · exact reading.congr fun d _ => by simp
      · exact reading
    · exact reading.completeWalk waits (s.ends_fault c w _)

theorem walkReadDone_eq {s : State} {c : ContextId} {w : Walk} (walks : s.context c = some w) (rest : List AccessRecord)
    (r : BusResult) : walkReadDone c r { s with inFlight := rest } =
      match w.phase with
      | .directoryRead => directoryDone c { w with read := .none } r (finishWalkRead c w rest s)
      | .blockRead f => completeWalk c (mapResult { w with read := .none } f (s.aperture w.aperture) r) (finishWalkRead c w rest s) := by
  unfold walkReadDone
  rw [show ({ s with inFlight := rest } : State).context c = some w from walks]
  rfl

theorem Reading.walkReadDone {s : State} (reading : Reading s) {c : ContextId} {w : Walk} (walks : s.context c = some w)
    (rest : List AccessRecord) (r : BusResult) : Reading (walkReadDone c r { s with inFlight := rest }) := by
  have waits : (finishWalkRead c w rest s).awaits c { w with read := .none } :=
    ⟨(s.context_setContext c c _).trans (if_pos rfl), rfl⟩
  have but : ReadingBut c (finishWalkRead c w rest s) := (reading.but c).congr fun d other =>
    (s.context_setContext c d _).trans (if_neg other)
  rw [walkReadDone_eq walks]
  split
  · exact but.directoryDone waits r
  · exact but.completeWalk waits (mapResult_ends _ _ _ _ _ _ _)

theorem walkReadLaw_iff {s : State} : WalkReadLaw s ↔ Reading s ∧ Recorded s :=
  ⟨fun law => ⟨law.busy, law.records⟩, fun ⟨busy, records⟩ => ⟨busy, records⟩⟩

theorem WalkerStill.reading {s t : State} (still : WalkerStill s t) (reading : Reading s) : Reading t := by
  intro c w walks
  obtain ⟨v, before, -, read⟩ := still.walk walks
  rw [← read]
  exact reading c v before

theorem walkReadLaw_keptByWalker : KeptByWalker WalkReadLaw where
  still s t still law := by
    obtain ⟨reading, recorded⟩ := walkReadLaw_iff.1 law
    exact walkReadLaw_iff.2 ⟨still.reading reading, still.recorded recorded⟩
  arrival s m r law := by
    obtain ⟨reading, recorded⟩ := walkReadLaw_iff.1 law
    obtain ⟨a, reach⟩ := judgeArrival_reach m r s
    refine walkReadLaw_iff.2 ⟨?_, reach.recorded recorded⟩
    obtain still | ⟨u, num, n, page, arrival, still, parked⟩ := judgeArrival_walker m r s
    · exact still.reading reading
    · rw [parked]
      exact (still.reading reading).parkRequest num m r n page arrival
  grant s c w t walks pending law := by
    obtain ⟨reading, recorded⟩ := walkReadLaw_iff.1 law
    refine walkReadLaw_iff.2 ⟨?_, recorded.grantWalk walks pending⟩
    obtain ⟨p, granted⟩ := grantWalk_of_busy walks
    rw [granted]
    exact ReadingBut.reading_of_busy (c := c) (w := { w with read := .issued })
      ((reading.but c).congr fun d other => (s.context_setContext c d _).trans (if_neg other))
      ((s.context_setContext c c _).trans (if_pos rfl)) (by simp)
  read s c n p rest res oldest law := by
    obtain ⟨reading, recorded⟩ := walkReadLaw_iff.1 law
    obtain ⟨w, walks, finished⟩ := recorded.walkRead oldest
    obtain ⟨idle, -⟩ | ⟨v, walks', reach⟩ := walkRecordDone_reach (s := s) (c := c) (n := n) (p := p) rest res
    · rw [walks] at idle
      cases idle
    · cases walks.symm.trans walks'
      exact walkReadLaw_iff.2 ⟨reading.walkReadDone walks rest res, reach.recorded finished⟩
  walk s c w r walks unread law := absurd unread (law.busy c w walks)
  takeover s c idle law := by
    obtain ⟨reading, recorded⟩ := walkReadLaw_iff.1 law
    exact walkReadLaw_iff.2 ⟨(reading.but c).takeover _ idle, (Reach.takeover _ .refl idle).recorded recorded⟩
  reset s t act := walkReadLaw_iff.2 ⟨fun c w walks => by simp [act.contexts_eq] at walks,
    fun c => by simp [act.walkRecords_eq, State.readIssued, act.contexts_eq]⟩

/-- Settles O10: the events of the walker each leave a busy context with its read pending or ended. -/
theorem walkerReadsStayAccountedFor : Obligations.WalkerReadsStayAccountedFor := fun _ _ done =>
  ⟨walkReadLaw_keptByWalker.events.step done fun _ _ law => ⟨law.busy, law.records⟩,
    readyLaw_keptByWalker.events.step done fun _ _ law => ⟨law.below, law.apart⟩⟩

end Sys2Proof.Machine

/-! PROOFS. The walks have distinct keys, no Queued slot has the key of one, and no context is Idle while a slot is Queued
(R69, R70, R92). -/

namespace Sys2Proof.Machine

/-! ## The law in its two parts -/

/-- A slot is for the key of a walk. -/
def ParkSlot.isFor (k : ParkSlot) (w : Walk) : Prop := w.aperture = k.aperture ∧ w.page = k.page

/-- Two contexts never walk one key, and none walks the key of a Queued slot. -/
structure KeysApart (s : State) : Prop where
  distinct : ∀ c d v w, c ≠ d → s.context c = some v → s.context d = some w → ¬ v.sameKey w
  queued : ∀ k ∈ s.queuedSlots, ∀ c w, s.context c = some w → ¬ k.isFor w

/-- No context but perhaps `c` is Idle while a slot is Queued. -/
def BusyBut (c : ContextId) (s : State) : Prop := s.queuedSlots ≠ [] → ∀ d, d ≠ c → (s.context d).isSome = true

theorem walkLaw_iff {s : State} :
    WalkLaw s ↔ KeysApart s ∧ (s.queuedSlots ≠ [] → ∀ c, (s.context c).isSome = true) := by
  refine ⟨fun ⟨distinct, queued, busy⟩ => ⟨⟨fun c d v w other walks walks' key => ?_, queued⟩, busy⟩,
    fun ⟨⟨distinct, queued⟩, busy⟩ => ⟨fun v w walks walks' => distinct 0 1 v w (by decide) walks walks', queued, busy⟩⟩
  obtain ⟨rfl, rfl⟩ | ⟨rfl, rfl⟩ : (c = 0 ∧ d = 1) ∨ (c = 1 ∧ d = 0) :=
    (by decide : ∀ c d : ContextId, c ≠ d → (c = 0 ∧ d = 1) ∨ (c = 1 ∧ d = 0)) c d other
  · exact distinct v w walks walks' key
  · exact distinct w v walks' walks key.symm

theorem WalkLaw.keysApart {s : State} (law : WalkLaw s) : KeysApart s := (walkLaw_iff.1 law).1

theorem WalkLaw.busyBut {s : State} (law : WalkLaw s) (c : ContextId) : BusyBut c s := fun queued d _ => law.busy queued d

theorem KeysApart.walkLaw_of_none {s : State} (apart : KeysApart s) (none : s.queuedSlots = []) : WalkLaw s :=
  walkLaw_iff.2 ⟨apart, fun queued => absurd none queued⟩

theorem KeysApart.walkLaw_of_busy {s : State} {c : ContextId} {w : Walk} (apart : KeysApart s) (busy : BusyBut c s)
    (walks : s.context c = some w) : WalkLaw s := by
  refine walkLaw_iff.2 ⟨apart, fun queued d => ?_⟩
  by_cases own : d = c
  · rw [own, walks]
    rfl
  · exact busy queued d own

/-! ## Walks that keep their keys -/

/-- Every walk of `t` is one of `s` in the same context, of the same key, and every Queued slot of `t` has the key of one
of `s`. -/
structure KeysKept (s t : State) : Prop where
  walks : ∀ c w, t.context c = some w → ∃ v, s.context c = some v ∧ v.sameKey w
  queued : ∀ k ∈ t.queuedSlots, ∃ j ∈ s.queuedSlots, j.aperture = k.aperture ∧ j.page = k.page

theorem KeysKept.queued_ne_nil {s t : State} (kept : KeysKept s t) (queued : t.queuedSlots ≠ []) : s.queuedSlots ≠ [] := by
  obtain ⟨k, mem⟩ := List.exists_mem_of_ne_nil _ queued
  obtain ⟨j, before, -⟩ := kept.queued k mem
  exact List.ne_nil_of_mem before

theorem KeysApart.keep {s t : State} (apart : KeysApart s) (kept : KeysKept s t) : KeysApart t where
  distinct c d v w other walks walks' key := by
    obtain ⟨v', before, key'⟩ := kept.walks c v walks
    obtain ⟨w', before', key''⟩ := kept.walks d w walks'
    exact apart.distinct c d v' w' other before before' ((key'.trans key).trans key''.symm)
  queued k mem c w walks key := by
    obtain ⟨v, before, key'⟩ := kept.walks c w walks
    obtain ⟨j, mem', aperture, page⟩ := kept.queued k mem
    exact apart.queued j mem' c v before ⟨key'.1.trans (key.1.trans aperture.symm), key'.2.trans (key.2.trans page.symm)⟩

theorem WalkLaw.keep {s t : State} (law : WalkLaw s) (kept : KeysKept s t)
    (busy : ∀ c v, s.context c = some v → ∃ w, t.context c = some w) : WalkLaw t := by
  refine walkLaw_iff.2 ⟨law.keysApart.keep kept, fun queued c => ?_⟩
  obtain ⟨v, walks⟩ := Option.isSome_iff_exists.1 (law.busy (kept.queued_ne_nil queued) c)
  exact Option.isSome_iff_exists.2 (busy c v walks)

theorem WalkerStill.keysKept {s t : State} (still : WalkerStill s t) : KeysKept s t where
  walks c w walks := by
    obtain ⟨v, before, key, -⟩ := still.walk walks
    exact ⟨v, before, key⟩
  queued := still.queued

theorem WalkerStill.walkLaw {s t : State} (still : WalkerStill s t) (law : WalkLaw s) : WalkLaw t := by
  refine law.keep still.keysKept fun c v walks => ?_
  have same := still.walks c
  rw [walks] at same
  obtain ⟨w, after, -⟩ := Option.map_eq_some_iff.1 same
  exact ⟨w, after⟩

/-- The walk of context `c` changes but for its key, and slots leave. -/
theorem WalkLaw.replace {s t : State} (law : WalkLaw s) {c : ContextId} {v w : Walk} (walks : s.context c = some v)
    (others : ∀ d, d ≠ c → t.context d = s.context d) (own : t.context c = some w) (key : w.sameKey v)
    (park : t.park.Sublist s.park) : WalkLaw t := by
  refine law.keep ⟨fun d u after => ?_, fun k mem => ⟨k, (State.queuedSlots_sublist park).subset mem, rfl, rfl⟩⟩ fun d u before => ?_
  · by_cases same : d = c
    · subst same
      rw [own] at after
      cases after
      exact ⟨v, walks, key.symm⟩
    · exact ⟨u, (others d same) ▸ after, .refl u⟩
  · by_cases same : d = c
    · exact ⟨w, same ▸ own⟩
    · exact ⟨u, (others d same).trans before⟩

/-! ## Judging, and the takeover -/

/-- A judged walk stands with its key, or it leaves its context Idle. -/
theorem WalkLaw.judgeWalk {s : State} {c : ContextId} {w : Walk} (law : WalkLaw s) (waits : s.awaits c w) (r : WalkResult) :
    ((judgeWalk c w r s).2 = false → WalkLaw (judgeWalk c w r s).1) ∧
      ((judgeWalk c w r s).2 = true → KeysApart (idleReport w.aperture (judgeWalk c w r s).1) ∧
        BusyBut c (idleReport w.aperture (judgeWalk c w r s).1) ∧
        (idleReport w.aperture (judgeWalk c w r s).1).context c = none) := by
  have judged := Reach.judgeWalk (o := s) .refl waits r
  have park := judgeWalk_park_sublist c w r s
  refine ⟨fun stands => ?_, fun ended => ?_⟩
  · obtain ⟨-, v, walks, key⟩ := judged.still stands
    exact law.replace waits.1 judged.others walks key park
  · have idle := (judged.idleReport ended).2
    have others (d : ContextId) (other : d ≠ c) : (idleReport w.aperture (Machine.judgeWalk c w r s).1).context d = s.context d := by
      simpa [idleReport] using judged.others d other
    have kept : KeysKept s (idleReport w.aperture (Machine.judgeWalk c w r s).1) := by
      refine ⟨fun d v walks => ?_, fun k mem => ⟨k, (State.queuedSlots_sublist ?_).subset mem, rfl, rfl⟩⟩
      · by_cases own : d = c
        · rw [own, idle] at walks
          cases walks
        · exact ⟨v, others d own ▸ walks, .refl v⟩
      · simpa [idleReport] using park
    refine ⟨law.keysApart.keep kept, fun queued d other => ?_, idle⟩
    rw [others d other]
    exact law.busy (kept.queued_ne_nil queued) d

theorem State.mem_queuedSlots {s : State} {k : ParkSlot} : k ∈ s.queuedSlots ↔ k ∈ s.park ∧ k.placement = .queued := by
  simp [State.queuedSlots]

/-- The slots that stay Queued when those of a key join. -/
theorem mem_queuedSlots_joinQueued {s : State} {c : ContextId} {n : ApertureId} {page : Nat} {k : ParkSlot}
    (mem : k ∈ (joinQueued c n page s).queuedSlots) : k ∈ s.queuedSlots ∧ ¬ (k.aperture = n ∧ k.page = page) := by
  obtain ⟨inside, queued⟩ := State.mem_queuedSlots.1 mem
  obtain ⟨j, before, rfl⟩ := List.mem_map.1 inside
  split at queued
  · cases queued
  · next stays =>
    rw [if_neg stays]
    exact ⟨State.mem_queuedSlots.2 ⟨before, queued⟩, fun key => stays (by simp [queued, key])⟩

/-- The entry of the oldest Queued slot's walk: its key is walked nowhere, and the slots of its key have joined it. -/
theorem KeysApart.entered {s t : State} {c : ContextId} {k : ParkSlot} {v : Walk} (apart : KeysApart s) (busy : BusyBut c s)
    (mem : k ∈ s.queuedSlots) (others : ∀ d, d ≠ c → t.context d = s.context d) (walks : t.context c = some v) (key : k.isFor v)
    (queued : ∀ x ∈ t.queuedSlots, x ∈ s.queuedSlots ∧ ¬ (x.aperture = k.aperture ∧ x.page = k.page)) : WalkLaw t := by
  have elsewhere (d : ContextId) (other : d ≠ c) (w : Walk) (here : t.context d = some w) : ¬ v.sameKey w := fun same =>
    apart.queued k mem d w (others d other ▸ here) ⟨same.1.symm.trans key.1, same.2.symm.trans key.2⟩
  have apart' : KeysApart t := by
    refine ⟨fun d e u w other here here' same => ?_, fun x inside d w here same => ?_⟩
    · by_cases own : d = c
      · subst own
        cases walks.symm.trans here
        exact elsewhere e (Ne.symm other) w here' same
      · by_cases own' : e = c
        · subst own'
          cases walks.symm.trans here'
          exact elsewhere d own u here same.symm
        · exact apart.distinct d e u w other (others d own ▸ here) (others e own' ▸ here') same
    · obtain ⟨before, different⟩ := queued x inside
      by_cases own : d = c
      · subst own
        cases walks.symm.trans here
        exact different ⟨same.1.symm.trans key.1, same.2.symm.trans key.2⟩
      · exact apart.queued x before d w (others d own ▸ here) same
  refine apart'.walkLaw_of_busy (c := c) (fun _ d other => ?_) walks
  rw [others d other]
  exact busy (List.ne_nil_of_mem mem) d other

/-- A takeover with a bound of at least the number of Queued slots leaves no Idle context while a slot is Queued. -/
theorem KeysApart.takeover (fuel : Nat) {c : ContextId} {s : State} (apart : KeysApart s) (busy : BusyBut c s)
    (idle : s.context c = none) (enough : s.queuedSlots.length ≤ fuel) : WalkLaw (takeover fuel c s) := by
  induction fuel generalizing s with
  | zero => exact apart.walkLaw_of_none (List.length_eq_zero_iff.1 (Nat.le_zero.1 enough))
  | succ fuel ih =>
    unfold Machine.takeover
    split
    · next none => exact apart.walkLaw_of_none none
    · next k more queued =>
      let start : Walk := ⟨.directoryRead, k.aperture, k.page, .none, false, false⟩
      have entered : Entered c start _ (startWalk c k.aperture k.page (joinQueued c k.aperture k.page s)) :=
        entered_enterDirectory c start _
      have park : (startWalk c k.aperture k.page (joinQueued c k.aperture k.page s)).1.park =
        (joinQueued c k.aperture k.page s).park := by simp
      have fewer := joinQueued_lt c queued
      obtain ⟨others, v, walks, key, -, unread⟩ := entered
      generalize startWalk c k.aperture k.page (joinQueued c k.aperture k.page s) = entry at others walks unread park ⊢
      obtain ⟨t, result⟩ := entry
      have slots : t.queuedSlots = (joinQueued c k.aperture k.page s).queuedSlots := congrArg (List.filter _) park
      have law : WalkLaw t := apart.entered busy (queued ▸ List.mem_cons_self) others walks key fun x mem =>
        mem_queuedSlots_joinQueued (slots ▸ mem)
      cases result with
      | none => exact law
      | some x =>
        have walks' : t.context c = some v := walks
        have left := queuedSlots_le_of_park (judgeWalk_park_sublist c v x t)
        obtain ⟨stands, ended⟩ := law.judgeWalk ⟨walks', unread x rfl⟩ x
        dsimp only
        rw [walks']
        dsimp only
        generalize Machine.judgeWalk c v x t = judged at stands ended left
        obtain ⟨u, gone⟩ := judged
        cases gone with
        | false => exact stands rfl
        | true =>
          obtain ⟨apart', busy', none⟩ := ended rfl
          have same : (idleReport v.aperture u).queuedSlots = u.queuedSlots := by simp [State.queuedSlots, idleReport]
          refine ih apart' busy' none ?_
          have remaining : u.queuedSlots.length ≤ t.queuedSlots.length := left
          rw [slots] at remaining
          rw [same]
          omega

theorem WalkLaw.completeWalk {s : State} {c : ContextId} {w : Walk} (law : WalkLaw s) (waits : s.awaits c w) (r : WalkResult) :
    WalkLaw (completeWalk c r s) := by
  obtain ⟨stands, ended⟩ := law.judgeWalk waits r
  cases judged : Machine.judgeWalk c w r s with
  | mk t gone =>
    rw [judged] at stands ended
    cases gone with
    | false =>
      rw [completeWalk_of_still waits.1 judged]
      exact stands rfl
    | true =>
      rw [completeWalk_of_ended waits.1 judged]
      obtain ⟨apart, busy, none⟩ := ended rfl
      refine apart.takeover _ busy none ?_
      simpa [idleReport] using (idleReport w.aperture t).queuedSlots_le

theorem WalkLaw.finishEntry {s : State} {c : ContextId} {w : Walk} {p : State × Option WalkResult} (law : WalkLaw p.1)
    (entered : Entered c w s p) : WalkLaw (finishEntry c p) := by
  obtain ⟨-, v, walks, -, -, unread⟩ := entered
  unfold Machine.finishEntry
  split
  · exact law
  · next x ended => exact law.completeWalk ⟨walks, unread x ended⟩ x

/-! ## The events of the walker -/

theorem State.busy_of_idleContext {s : State} (none : s.idleContext = none) (c : ContextId) : (s.context c).isSome = true := by
  have all := List.find?_eq_none.1 none c (by fin_cases c <;> simp)
  simpa [Option.isNone_iff_eq_none, Option.isSome_iff_ne_none] using all

theorem WalkLaw.parkRequest {s : State} (law : WalkLaw s) (num : SlotId) (m : Master) (r : Request) (n : ApertureId)
    (page arrival : Nat) : WalkLaw (parkRequest num m r n page arrival s) := by
  have slots (place : Placement) : (addSlot (parkedSlot num m r n page arrival place s.parkTimeout) s).queuedSlots =
      s.queuedSlots ++ if place = .queued then [parkedSlot num m r n page arrival place s.parkTimeout] else [] := by
    by_cases queued : place = .queued
    · simp [State.queuedSlots, parkedSlot, queued]
    · simp [State.queuedSlots, parkedSlot, queued]
  rw [parkRequest_eq]
  cases found : s.contextFor n page with
  | some c =>
    dsimp only
    have same := slots (.waiting c)
    rw [if_neg (by simp), List.append_nil] at same
    exact law.keep ⟨fun d w walks => ⟨w, walks, .refl w⟩, fun k mem => ⟨k, same ▸ mem, rfl, rfl⟩⟩ fun d v walks => ⟨v, walks⟩
  | none =>
    have elsewhere := State.contextFor_eq_none.1 found
    dsimp only
    cases free : s.idleContext with
    | none =>
      dsimp only
      have busy := State.busy_of_idleContext free
      have same := slots .queued
      rw [if_pos rfl] at same
      refine ⟨law.distinct, fun k mem c w walks => ?_, fun _ => busy⟩
      rw [same, List.mem_append, List.mem_singleton] at mem
      obtain before | rfl := mem
      · exact law.queued k before c w walks
      · exact elsewhere c w walks
    | some c =>
      dsimp only
      have idle := State.idle_of_idleContext free
      have none : s.queuedSlots = [] := by
        by_contra queued
        have taken := law.busy queued c
        rw [idle] at taken
        cases taken
      have same := slots (.waiting c)
      rw [if_neg (by simp), List.append_nil, none] at same
      let start : Walk := ⟨.directoryRead, n, page, .none, false, false⟩
      let u := addSlot (parkedSlot num m r n page arrival (.waiting c) s.parkTimeout) s
      have entered : Entered c start u (startWalk c n page u) := entered_enterDirectory c start u
      refine WalkLaw.finishEntry ?_ entered
      have empty : (startWalk c n page u).1.queuedSlots = [] := by
        have park : (startWalk c n page u).1.park = u.park := by simp
        exact (congrArg (List.filter _) park).trans same
      obtain ⟨others, v, walks, key, -, -⟩ := entered
      have apart (d : ContextId) (other : d ≠ c) (w : Walk) (here : (startWalk c n page u).1.context d = some w) :
          ¬ v.sameKey w := fun same =>
        elsewhere d w ((others d other).symm.trans here) ⟨same.1.symm.trans key.1, same.2.symm.trans key.2⟩
      refine KeysApart.walkLaw_of_none ⟨fun d e x w other here here' same => ?_, fun k mem => ?_⟩ empty
      · by_cases own : d = c
        · subst own
          cases walks.symm.trans here
          exact apart e (Ne.symm other) w here' same
        · by_cases own' : e = c
          · subst own'
            cases walks.symm.trans here'
            exact apart d own x here same.symm
          · exact law.keysApart.distinct d e x w other ((others d own).symm.trans here) ((others e own').symm.trans here') same
      · rw [empty] at mem
        cases mem

theorem WalkLaw.directoryDone {s : State} {c : ContextId} {w : Walk} (law : WalkLaw s) (waits : s.awaits c w) (r : BusResult) :
    WalkLaw (directoryDone c w r s) := by
  have enters {t : State} (contexts : ∀ d, t.context d = s.context d) (park : t.park = s.park) (f : Frame) :
      WalkLaw (Machine.finishEntry c (enterBlock c w f t)) := by
    have entered := entered_enterBlock c w f t
    refine WalkLaw.finishEntry ?_ entered
    obtain ⟨others, v, walks, key, -⟩ := entered
    have kept : (enterBlock c w f t).1.park = s.park := (by simp : _ = t.park).trans park
    exact law.replace waits.1 (fun d other => (others d other).trans (contexts d)) walks key (kept ▸ .refl _)
  unfold Machine.directoryDone
  cases r with
  | error => exact law.completeWalk waits _
  | okay beats =>
    dsimp only
    split
    · split
      · exact enters (fun d => by simp) (by simp) _
      · exact enters (fun _ => rfl) rfl _
    · exact law.completeWalk waits _

theorem WalkLaw.finishWalkRead {s : State} {c : ContextId} {w : Walk} (law : WalkLaw s) (walks : s.context c = some w)
    (rest : List AccessRecord) : WalkLaw (finishWalkRead c w rest s) :=
  law.replace (w := { w with read := .none }) walks (fun d other => (s.context_setContext c d _).trans (if_neg other))
    ((s.context_setContext c c _).trans (if_pos rfl)) ⟨rfl, rfl⟩ (.refl _)

theorem walkLaw_keptByWalker : KeptByWalker WalkLaw where
  still s t still law := still.walkLaw law
  arrival s m r law := by
    obtain still | ⟨u, num, n, page, arrival, still, parked⟩ := judgeArrival_walker m r s
    · exact still.walkLaw law
    · rw [parked]
      exact (still.walkLaw law).parkRequest num m r n page arrival
  grant s c w t walks pending law := by
    obtain ⟨p, granted⟩ := grantWalk_of_busy walks
    rw [granted]
    exact law.replace (w := { w with read := .issued }) walks
      (fun d other => (s.context_setContext c d _).trans (if_neg other))
      ((s.context_setContext c c _).trans (if_pos rfl)) ⟨rfl, rfl⟩ (.refl _)
  read s c n p rest res oldest law := by
    cases walks : s.context c with
    | none =>
      have still : walkReadDone c res { s with inFlight := rest } = { s with inFlight := rest } := by
        unfold walkReadDone
        rw [show ({ s with inFlight := rest } : State).context c = none from walks]
      rw [still]
      exact ⟨law.distinct, law.queued, law.busy⟩
    | some w =>
      have waits : (finishWalkRead c w rest s).awaits c { w with read := .none } :=
        ⟨(s.context_setContext c c _).trans (if_pos rfl), rfl⟩
      rw [walkReadDone_eq walks]
      split
      · exact (law.finishWalkRead walks rest).directoryDone waits res
      · exact (law.finishWalkRead walks rest).completeWalk waits _
  walk s c w r walks unread law := law.completeWalk ⟨walks, unread⟩ r
  takeover s c idle law := law.keysApart.takeover _ (law.busyBut c) idle s.queuedSlots_le
  reset s t act := KeysApart.walkLaw_of_none ⟨fun c d v w _ walks => by simp [act.contexts_eq] at walks,
    fun k _ c w walks => by simp [act.contexts_eq] at walks⟩ (by simp [State.queuedSlots, act.park_eq_nil])

/-- Settles O9: a walk starts for a key that none walks, and a context that a walk leaves is offered until no slot is Queued. -/
theorem walksStayDistinctAndContextsTaken : Obligations.WalksStayDistinctAndContextsTaken := fun _ _ law done =>
  walkLaw_keptByWalker.events.step done (fun _ _ h => ⟨h.distinct, h.queued, h.busy⟩) law

end Sys2Proof.Machine
